-- ==== Sys2Proof/Word.lean ====
section
/-! DEFINITION. The word types of TAWC: bytes, 16-bit fields and 32-bit registers (00_scope.md R8, R12). -/

namespace Sys2Proof

/-- One byte of a memory, an image or a frame (R13). -/
abbrev Byte := BitVec 8

/-- A 16-bit field (10_state.md R33). -/
abbrev Half := BitVec 16

/-- A 32-bit register or command word (R8 `REG_WIDTH`). -/
abbrev Word := BitVec 32

end Sys2Proof
end

