-- ==== Sys2Proof/Config.lean ====
section
/-! DEFINITION. The parameters of an instance (00_scope.md R8, R9) and the values the spec leaves free
(93_implementation_defined.md U1). -/

namespace Sys2Proof

/-- R8 `HDR_BYTES`: bytes of a container image before its payload. -/
abbrev hdrBytes : Nat := 44

/-- R8 `WIRE_FRAG_MAX`: the largest CHUNK body RECEIVE accepts. -/
abbrev wireFragMax : Nat := 5120

/-- R8 `META_LEN`: the length of a META frame's body. -/
abbrev metaLen : Nat := 18

/-- R8 `FRAME_HDR`: the length of a frame's header. -/
abbrev frameHdr : Nat := 4

/-- The OPEN parameters of R8. R9 asks a model to reject a configuration that breaks its constraints:
the constraints are fields, so such a configuration cannot be built (log 2). -/
structure Config where
  /-- `PAY_BYTES`: capacity of payload memory PAY. -/
  payBytes : Nat
  /-- `BUF_BYTES`: capacity of container-image memory BUF. -/
  bufBytes : Nat
  /-- `FRAG_MAX`: the largest CHUNK body SEND emits. -/
  fragMax : Nat
  pay_pos : 1 ≤ payBytes
  pay_le : payBytes ≤ 2 ^ 32 - 45
  buf_ge : hdrBytes + payBytes ≤ bufBytes
  buf_le : bufBytes ≤ 2 ^ 32 - 1
  frag_pos : 1 ≤ fragMax
  frag_le : fragMax ≤ wireFragMax
deriving DecidableEq, Repr

/-- R9: the configuration of three parameters, or none where they break a constraint. -/
def Config.ofParams (pay buf frag : Nat) : Option Config :=
  if h : (1 ≤ pay ∧ pay ≤ 2 ^ 32 - 45) ∧ (hdrBytes + pay ≤ buf ∧ buf ≤ 2 ^ 32 - 1) ∧
      (1 ≤ frag ∧ frag ≤ wireFragMax) then
    some ⟨pay, buf, frag, h.1.1, h.1.2, h.2.1.1, h.2.1.2, h.2.2.1, h.2.2.2⟩
  else none

/-- The parameters of `Machine.State.reset`: those of the spec's own test vectors
(95_test_vectors.md section 0), FRAG_MAX at its reference value (R8). DESIGN CHOICE, unsafe: the spec leaves
PAY_BYTES and BUF_BYTES open; no statement rests on these three numbers (log 1). -/
def Config.reference : Config :=
  ⟨64, 128, 5120, by decide, by decide, by decide, by decide, by decide, by decide⟩

/-- U1: what BUF holds at power-up number `p` at address `a`. A free value: nothing constrains it (log 3). -/
opaque Config.powerUpBuf (p a : Nat) : Byte

/-- U1: what PAY holds at power-up number `p` at address `a`. A free value: nothing constrains it (log 3). -/
opaque Config.powerUpPay (p a : Nat) : Byte

end Sys2Proof
end

