-- ==== Sys2Proof/Syntax.lean ====
section
/-! DEFINITION. The ten encoded objects of spec/opcode_table.json: the seven commands (30_encoding.md R62) and the
three frames (R69). -/

namespace Sys2Proof

/-- One constructor per row of spec/opcode_table.json. Commands have no operand fields (R61); a META frame carries
the six fields of R70, a CHUNK frame its body. -/
inductive Instr where
  /-- DECODE (R84). -/
  | decode
  /-- VALIDATE (R85). -/
  | validate
  /-- ENCODE (R88). -/
  | encode
  /-- CONSTRUCT (R90). -/
  | construct
  /-- SEND (R94). -/
  | send
  /-- RECEIVE (R103). -/
  | receive
  /-- ABORT (R83). -/
  | abort
  /-- The META frame (R70): channel count, sample rate, average byte rate, block alignment, bits per sample,
  total payload byte length. -/
  | metaFrame (ch : Half) (sr br : Word) (ba bps : Half) (len : Word)
  /-- The CHUNK frame (R69): the fragment's payload bytes, in order. -/
  | chunkFrame (body : List Byte)
  /-- The END frame (R69): the end-of-stream signal. -/
  | endFrame
deriving DecidableEq, Repr

/-- Where an encoded object reaches the block: the CMD register (R61) or the Channel port (R73). -/
inductive Port where
  | cmd
  | channel
deriving DecidableEq, Repr

end Sys2Proof
end

