-- ==== Sys2Proof/WellFormed.lean ====
section
/-! DEFINITION. Which instruction terms have an encoding. The one check the field types do not make is the CHUNK
bound of 30_encoding.md R69. -/

namespace Sys2Proof

/-- R69: a CHUNK's body is at most `WIRE_FRAG_MAX` = 5120 bytes. Every other field is as wide as its type. -/
def Instr.WellFormed : Instr → Bool
  | .chunkFrame body => decide (body.length ≤ wireFragMax)
  | .decode => true
  | .validate => true
  | .encode => true
  | .construct => true
  | .send => true
  | .receive => true
  | .abort => true
  | .metaFrame _ _ _ _ _ _ => true
  | .endFrame => true

end Sys2Proof
end

