-- ==== Sys2Proof/Decode.lean ====
section
/-! DEFINITION. Byte order (00_scope.md R13), the decoder of command words (30_encoding.md R61 to R63) and frames
(R68 to R72), total and rejecting by name, and after it the encoder. -/

namespace Sys2Proof

/-! Byte strings (R13). -/

/-- The byte `s[i]`; every use below is within the string. -/
def byteAt (s : List Byte) (i : Nat) : Byte := s.getD i 0

/-- R13 `le16(s, o)`. -/
def le16 (s : List Byte) (o : Nat) : Half :=
  BitVec.ofNat 16 ((byteAt s o).toNat + 256 * (byteAt s (o + 1)).toNat)

/-- R13 `le32(s, o)`. -/
def le32 (s : List Byte) (o : Nat) : Word :=
  BitVec.ofNat 32 ((byteAt s o).toNat + 256 * (byteAt s (o + 1)).toNat +
    65536 * (byteAt s (o + 2)).toNat + 16777216 * (byteAt s (o + 3)).toNat)

/-- R13 `bytes16(v)`. -/
def bytes16 (v : Half) : List Byte :=
  [BitVec.ofNat 8 v.toNat, BitVec.ofNat 8 (v.toNat / 256)]

/-- R13 `bytes32(v)`. -/
def bytes32 (v : Word) : List Byte :=
  [BitVec.ofNat 8 v.toNat, BitVec.ofNat 8 (v.toNat / 256),
   BitVec.ofNat 8 (v.toNat / 65536), BitVec.ofNat 8 (v.toNat / 16777216)]

/-! The decoder. -/

/-- Why the decoder rejects. -/
inductive DecodeError where
  /-- R63: an OPCODE of 0x00 or 0x08 to 0xFF, or a nonzero RSVD field. -/
  | illegalCommand
  /-- R61: the CMD register takes 32-bit words only. -/
  | notOneWord
  /-- R72 check 1: fewer than four bytes. -/
  | shortFrame
  /-- R72 check 2: the RSVD byte is not 0. -/
  | frameReserved
  /-- R72 check 3: TYPE is not 1, 2 or 3. -/
  | frameType
  /-- R72 check 4: LEN is not the length of the body. -/
  | frameLength
  /-- R72 check 5: META with LEN other than 18, END with LEN other than 0, CHUNK with LEN over 5120. -/
  | frameBound
deriving DecidableEq, Repr

/-- What the decoder answers. -/
inductive Decoded where
  | ok (i : Instr)
  | reject (e : DecodeError)
deriving DecidableEq, Repr

/-- R62: a command word selects a command exactly when its whole 32 bits equal the match value. -/
def decodeCommand (w : Word) : Decoded :=
  if w = 0x00000001 then .ok .decode
  else if w = 0x00000002 then .ok .validate
  else if w = 0x00000003 then .ok .encode
  else if w = 0x00000004 then .ok .construct
  else if w = 0x00000005 then .ok .send
  else if w = 0x00000006 then .ok .receive
  else if w = 0x00000007 then .ok .abort
  else .reject .illegalCommand

/-- The META frame of a frame's bytes: the body fields of R70 at their frame offsets (R105). -/
def metaOf (f : List Byte) : Instr :=
  .metaFrame (le16 f 4) (le32 f 6) (le32 f 10) (le16 f 14) (le16 f 16) (le32 f 18)

/-- The checks of R72 on a frame, in their order, and then the frame it is. -/
def decodeFrame (f : List Byte) : Decoded :=
  if f.length < frameHdr then .reject .shortFrame
  else if byteAt f 1 ≠ 0 then .reject .frameReserved
  else if byteAt f 0 = 0x01 then
    if (le16 f 2).toNat ≠ f.length - frameHdr then .reject .frameLength
    else if (le16 f 2).toNat ≠ metaLen then .reject .frameBound
    else .ok (metaOf f)
  else if byteAt f 0 = 0x02 then
    if (le16 f 2).toNat ≠ f.length - frameHdr then .reject .frameLength
    else if wireFragMax < (le16 f 2).toNat then .reject .frameBound
    else .ok (.chunkFrame (f.drop frameHdr))
  else if byteAt f 0 = 0x03 then
    if (le16 f 2).toNat ≠ f.length - frameHdr then .reject .frameLength
    else if (le16 f 2).toNat ≠ 0 then .reject .frameBound
    else .ok .endFrame
  else .reject .frameType

/-- The decoder, on the bytes that reach a port in ascending order (R46: a command word's low byte first). -/
def decode (p : Port) (bs : List Byte) : Decoded :=
  match p with
  | .cmd => if bs.length = 4 then decodeCommand (le32 bs 0) else .reject .notOneWord
  | .channel => decodeFrame bs

/-! The encoder. -/

/-- The port an instruction reaches the block by. -/
def Instr.port : Instr → Port
  | .decode => .cmd
  | .validate => .cmd
  | .encode => .cmd
  | .construct => .cmd
  | .send => .cmd
  | .receive => .cmd
  | .abort => .cmd
  | .metaFrame _ _ _ _ _ _ => .channel
  | .chunkFrame _ => .channel
  | .endFrame => .channel

/-- R68: a frame's header, TYPE, RSVD = 0 and LEN. -/
def frameHeader (type : Byte) (len : Nat) : List Byte :=
  [type, 0x00] ++ bytes16 (BitVec.ofNat 16 len)

/-- The bytes of a well-formed instruction: the command word of R62 or the frame of R68 to R70. -/
def encode : Instr → List Byte
  | .decode => bytes32 0x00000001
  | .validate => bytes32 0x00000002
  | .encode => bytes32 0x00000003
  | .construct => bytes32 0x00000004
  | .send => bytes32 0x00000005
  | .receive => bytes32 0x00000006
  | .abort => bytes32 0x00000007
  | .metaFrame ch sr br ba bps len =>
    frameHeader 0x01 metaLen ++
      (bytes16 ch ++ bytes32 sr ++ bytes32 br ++ bytes16 ba ++ bytes16 bps ++ bytes32 len)
  | .chunkFrame body => frameHeader 0x02 body.length ++ body
  | .endFrame => frameHeader 0x03 0

/-! Words as the opcode table numbers them. -/

/-- The `n` bytes of a number, low byte first. -/
def bytesOfNat : Nat → Nat → List Byte
  | 0, _ => []
  | n + 1, w => BitVec.ofNat 8 w :: bytesOfNat n (w / 256)

/-- The frame whose first `nbits` bits are `w`, every later bit 0, as long as its own LEN field says (R71). -/
def frameOfTable (nbits w : Nat) : List Byte :=
  let v := w % 2 ^ nbits
  bytesOfNat (frameHdr + v / 65536 % 65536) v

/-- Whether `nbits` bits `w` of the table are a command word. The table's VALIDATE and ENCODE words are also the
header words of an empty CHUNK and of END; 32 given bits that are a command word are read as the command (log 12). -/
def isTableCommand (nbits w : Nat) : Bool :=
  decide (32 ≤ nbits) && decide (w % 2 ^ nbits < 2 ^ 32) &&
    (match decodeCommand (BitVec.ofNat 32 (w % 2 ^ nbits)) with
     | .ok _ => true
     | .reject _ => false)

/-- The instruction the decoder reads from a word of spec/opcode_table.json. -/
def decodeTableWord (nbits w : Nat) : Option Instr :=
  match (if isTableCommand nbits w then decode .cmd (bytes32 (BitVec.ofNat 32 (w % 2 ^ nbits)))
         else decode .channel (frameOfTable nbits w)) with
  | .ok i => some i
  | .reject _ => none

end Sys2Proof
end

