-- ==== Sys2Proof/Machine/State.lean ====
section
/-! DEFINITION. The machine's state: everything 10_state.md names, the two memories of 20_memory.md, and the fields
of the model itself that hold the other agents' part as data (the interleaving to come, the Channel's queue, what was
emitted). The fault and refusal reasons, and the states after power-up and reset. -/

namespace Sys2Proof.Machine

/-- STATUS.PHASE (R23). Value 7 is never produced (93 RV4), so it has no constructor. -/
inductive Phase where
  | idle | exec | rxMeta | rxChunks | txMeta | txChunks | txEnd
deriving DecidableEq, Repr

/-- The error codes of R118. Codes 0x08 to 0xFF are never recorded (93 RV3), so they have no constructor. -/
inductive ErrCode where
  | none | formatTruncated | protoNoMetadata | protoTransportFailure | protoMalformed
  | capacity | noContainer | badCommand
deriving DecidableEq, Repr

/-- The thirteen container field registers C_* (R31), in the source's field order. -/
structure Container where
  riffId : Word
  totalSize : Word
  waveId : Word
  fmtId : Word
  fmtSize : Word
  fmtTag : Half
  channels : Half
  sampleRate : Word
  byteRate : Word
  blockAlign : Half
  bits : Half
  dataId : Word
  dataSize : Word
deriving DecidableEq, Repr

/-- The RX_* staging registers (R40). -/
structure Staging where
  ch : Half
  sr : Word
  br : Word
  ba : Half
  bps : Half
deriving DecidableEq, Repr

/-- A byte memory: (address, byte) pairs, addresses strictly rising (`Memory.wf`). An address that is not listed
holds no written value; it reads as the free value of U1 (log 3, 4). -/
abbrev Memory := List Host.Cell

/-- The registers of R18 by name; the offsets 0x64 to 0xFC are reserved and have none. -/
inductive Reg where
  | id | cmd | status | err | vcheck | bufLen
  | cRiffId | cTotalSize | cWaveId | cFmtId | cFmtSize | cFmtTag | cChannels
  | cSampleRate | cByteRate | cBlockAlign | cBits | cDataId | cDataSize
  | rxDeclLen | xferBytes | xferFrags | cfgFragMax | cfgPayBytes | cfgBufBytes
deriving DecidableEq, Repr

/-- The three address spaces of R43. -/
inductive Space where
  | reg | buf | pay
deriving DecidableEq, Repr

/-- The width of a host access (R47, R48). -/
inductive Width where
  /-- 8 bits: BUF and PAY admit it (R48). -/
  | w8
  /-- 16 bits: BUF and PAY admit it (R48). -/
  | w16
  /-- 32 bits: every space admits it (R47, R48). -/
  | w32
  /-- Any width that is not 8, 16 or 32 bits. No space admits it, so it is a bus error at every address (R47, R48,
  R49). DEDUCED: the outcome is the same for all such widths, so the model does not tell them apart (log 25). -/
  | other
deriving DecidableEq, Repr

/-- One host access: a read, or a write of the low bits of `v`, at byte address `a` of a space. The value of a write of
another width than 8, 16 or 32 bits is never looked at: the access is a bus error and stores nothing (R49). -/
inductive Access where
  | read (sp : Space) (w : Width) (a : Nat)
  | write (sp : Space) (w : Width) (a : Nat) (v : Word)
deriving DecidableEq, Repr

/-- The Channel's answer to an offered frame (R73). -/
inductive Answer where
  | ok | fail
deriving DecidableEq, Repr

/-- A receive event (R14 `take RX`, R73). -/
inductive RxEvent where
  | frame (f : List Byte)
  | linkError
deriving DecidableEq, Repr

/-- One step offered to the block in the interleaving of R56. -/
inductive Event where
  /-- The Host makes one access. -/
  | host (a : Access)
  /-- The Engine takes its EXEC step (R78), if PHASE = EXEC. -/
  | engine
  /-- The Channel answers the offered frame, if one is offered (R41). -/
  | answer (r : Answer)
  /-- The Channel delivers its next receive event, if the block is ready (R41). -/
  | deliver
  /-- The instance is reset (R131). -/
  | reset
deriving DecidableEq, Repr

/-- Whose step is being taken (R10). The MODEL's own: it tells the meaning of a command which of its stages this is,
its presentation at CMD, its EXEC step, or a step joined to a Channel event (log 6). -/
inductive Turn where
  | host
  | engine
  | answer (r : Answer)
  | deliver
  | reset
deriving DecidableEq, Repr

/-- What the block puts on the Channel port (R73), as the model records it (log 8). -/
inductive Emission where
  /-- A frame offered, with the Channel's answer. -/
  | frame (f : List Byte) (r : Answer)
  | txClose
  | rxClose
deriving DecidableEq, Repr

/-- The state of one TAWC instance. -/
structure State where
  /-- The parameters (R8); the CFG_* registers read them (R37). No step changes them. -/
  cfg : Config
  /-- STATUS.PHASE (R23); STATUS.BUSY is `phase ≠ idle` (R22). -/
  phase : Phase
  /-- STATUS.DONE (R21). -/
  done : Bool
  /-- STATUS.FAILED (R21). -/
  failed : Bool
  /-- STATUS.CPRES (R24). -/
  cpres : Bool
  /-- STATUS.VDONE (R25). -/
  vdone : Bool
  /-- STATUS.VALID (R25). -/
  valid : Bool
  /-- STATUS.SIZE_MISMATCH (R26). -/
  sizeMismatch : Bool
  /-- STATUS.CMD_OVERRUN (R27). -/
  cmdOverrun : Bool
  /-- STATUS.HOST_CONFLICT (R27). -/
  hostConflict : Bool
  /-- ERR (R28). -/
  err : ErrCode
  /-- VCHECK[6:0] (R29). -/
  vcheck : BitVec 7
  /-- BUF_LEN (R30). -/
  bufLen : Word
  /-- The C_* registers (R31). -/
  c : Container
  /-- RX_DECL_LEN (R34). -/
  rxDeclLen : Word
  /-- XFER_BYTES (R35). -/
  xferBytes : Word
  /-- XFER_FRAGS (R36). -/
  xferFrags : Word
  /-- PEND_OP (R40). -/
  pendOp : Byte
  /-- RX_CH, RX_SR, RX_BR, RX_BA, RX_BPS (R40). -/
  rx : Staging
  /-- TX_N (R40). -/
  txN : Word
  /-- Container-image memory BUF (R39). -/
  buf : Memory
  /-- Payload memory PAY (R39). -/
  pay : Memory
  /-- The MODEL's own: which power-up this is; it indexes the free contents of U1 (log 3). -/
  powerUp : Nat
  /-- The MODEL's own: whose step is being taken (log 6). -/
  turn : Turn
  /-- The MODEL's own: the interleaving still to come (R56, U5; log 5). -/
  events : List Event
  /-- The MODEL's own: receive events the Channel holds, oldest first (R104, D43; log 7). -/
  rxq : List RxEvent
  /-- The MODEL's own: what the block has put on the port, oldest first (log 8). -/
  emitted : List Emission
  /-- The MODEL's own: what the last host read returned (log 8). -/
  hostData : Option Word
deriving DecidableEq, Repr

/-- Why the machine stops. -/
inductive Fault where
  /-- Raised by a host access that R47 or R48 does not admit (R49, 93 RV6). Safe: the access changes no state of
  the block, and where the hardware goes on the model stops (log 9). -/
  | busError
  /-- Raised by the EXEC step when PEND_OP is the opcode of no codec command. R78 gives no rule for it and no run
  from reset reaches it. Safe: the model stops (log 11). -/
  | illegalPending
deriving DecidableEq, Repr

/-- Why a step has no meaning. -/
inductive Refusal where
  /-- Raised by an arm of `exec` whose instruction has no meaning yet; no arm raises it. Safe. -/
  | notModelled (mnemonic : String)
deriving DecidableEq, Repr

/-- All thirteen C_* registers at 0 (R132). -/
def Container.zero : Container :=
  { riffId := 0, totalSize := 0, waveId := 0, fmtId := 0, fmtSize := 0, fmtTag := 0, channels := 0,
    sampleRate := 0, byteRate := 0, blockAlign := 0, bits := 0, dataId := 0, dataSize := 0 }

/-- The staging registers at 0 (R132). -/
def Staging.zero : Staging := { ch := 0, sr := 0, br := 0, ba := 0, bps := 0 }

/-- An instance with parameters `cfg` right after power-up number `p` and its reset (R132): every register at its
reset value, the memories as the power-up left them (U1), and no event, frame or emission yet. -/
def State.powerOn (cfg : Config) (p : Nat) : State :=
  { cfg := cfg, phase := .idle, done := false, failed := false, cpres := false, vdone := false, valid := false,
    sizeMismatch := false, cmdOverrun := false, hostConflict := false, err := .none, vcheck := 0, bufLen := 0,
    c := .zero, rxDeclLen := 0, xferBytes := 0, xferFrags := 0, pendOp := 0, rx := .zero, txN := 0,
    buf := [], pay := [], powerUp := p, turn := .engine, events := [], rxq := [], emitted := [], hostData := none }

/-- The machine right after reset (R132), with the parameters of `Config.reference` (log 1). -/
def State.reset : State := State.powerOn Config.reference 0

end Sys2Proof.Machine
end

