-- ==== Sys2Proof/Machine/Ops.lean ====
section
/-! DEFINITION. The named operations every meaning is made of: the byte memories (20_memory.md R53), taking and leaving
an error (60_exceptions.md R120, R122; 40_dispatch.md R75, R81), the two dropped-write flags, the close events, the
saturating counters, and the two stages a codec command goes through. -/

namespace Sys2Proof.Machine

/-! Byte memories. -/

/-- The canonical form of a memory: addresses strictly rising. -/
def Memory.wf : Memory → Bool
  | [] => true
  | (a, _) :: m => (match m with
    | [] => true
    | (b, _) :: _ => decide (a < b)) && Memory.wf m

/-- Every listed address is below `n`. -/
def Memory.below (n : Nat) : Memory → Bool
  | [] => true
  | (a, _) :: m => decide (a < n) && Memory.below n m

/-- The byte written at an address, or none where nothing was written. -/
def Memory.lookup : Memory → Nat → Option Byte
  | [], _ => none
  | (k, v) :: m, a => if a = k then some v else Memory.lookup m a

/-- Write one byte. -/
def Memory.set : Memory → Nat → Byte → Memory
  | [], a, b => [(a, b)]
  | (k, v) :: m, a, b =>
    if a < k then (a, b) :: (k, v) :: m
    else if a = k then (a, b) :: m
    else (k, v) :: Memory.set m a b

/-- R14 `MemWrite`: write a byte string at consecutive addresses. -/
def Memory.write : Memory → Nat → List Byte → Memory
  | m, _, [] => m
  | m, a, b :: bs => Memory.write (Memory.set m a b) (a + 1) bs

/-- The byte of BUF at an address; a byte nothing has written is the free value of U1 (log 3). -/
def State.bufByte (s : State) (a : Nat) : Byte :=
  (Memory.lookup s.buf a).getD (Config.powerUpBuf s.powerUp a)

/-- The byte of PAY at an address; a byte nothing has written is the free value of U1 (log 3). -/
def State.payByte (s : State) (a : Nat) : Byte :=
  (Memory.lookup s.pay a).getD (Config.powerUpPay s.powerUp a)

/-- R14 `MemRead(BUF, a, n)`. -/
def State.readBuf (s : State) (a n : Nat) : List Byte := (List.range n).map fun i => s.bufByte (a + i)

/-- R14 `MemRead(PAY, a, n)`. -/
def State.readPay (s : State) (a n : Nat) : List Byte := (List.range n).map fun i => s.payByte (a + i)

/-- R14 `MemWrite(BUF, a, bs)`. -/
def State.writeBuf (s : State) (a : Nat) (bs : List Byte) : State := { s with buf := Memory.write s.buf a bs }

/-- R14 `MemWrite(PAY, a, bs)`. -/
def State.writePay (s : State) (a : Nat) (bs : List Byte) : State := { s with pay := Memory.write s.pay a bs }

/-! STATUS. -/

/-- R22: STATUS.BUSY. -/
def State.busy (s : State) : Bool := decide (s.phase ≠ .idle)

/-- R41: the receive side is ready exactly in RX_META and RX_CHUNKS. -/
def State.receiving (s : State) : Bool := decide (s.phase = .rxMeta ∨ s.phase = .rxChunks)

/-- R41: a frame is offered exactly in TX_META, TX_CHUNKS and TX_END. -/
def State.sending (s : State) : Bool :=
  decide (s.phase = .txMeta ∨ s.phase = .txChunks ∨ s.phase = .txEnd)

/-! Taking an error, leaving it, and completing. -/

/-- R120 `raise FAIL(code)`: the error entry every failing command takes. -/
def State.fail (s : State) (code : ErrCode) : State :=
  { s with phase := .idle, done := true, failed := true, err := code }

/-- R81 `complete()`. -/
def State.complete (s : State) : State :=
  { s with phase := .idle, done := true, failed := false, err := .none }

/-- The common clearing of acceptance (R75): the exit from an error (R122). -/
def State.accept (s : State) : State :=
  { s with done := false, failed := false, err := .none,
           sizeMismatch := false, cmdOverrun := false, hostConflict := false }

/-- R76: a dropped CMD write. -/
def State.flagOverrun (s : State) : State := { s with cmdOverrun := true }

/-- R50: a dropped write to a register or a memory. -/
def State.flagConflict (s : State) : State := { s with hostConflict := true }

/-- R25: VDONE, VALID and VCHECK become 0. -/
def State.clearValidation (s : State) : State := { s with vdone := false, valid := false, vcheck := 0 }

/-- R24, R25: what accepting a container-replacing command does to the slot. -/
def State.discardContainer (s : State) : State :=
  { s with cpres := false, vdone := false, valid := false, vcheck := 0 }

/-- R35, R36: the start of a transfer, by R94 or R103, sets the two counters to 0. -/
def State.clearCounters (s : State) : State := { s with xferBytes := 0, xferFrags := 0 }

/-- R75: the accepted codec command waits in PEND_OP for its EXEC step. -/
def State.pend (s : State) (op : Byte) : State := { s with pendOp := op, phase := .exec }

/-- Put one emission on the Channel port (R73). -/
def State.emit (s : State) (e : Emission) : State := { s with emitted := s.emitted ++ [e] }

/-- R115: a reception fails with `code`; RX_CLOSE is emitted unless the Channel itself reported the error. -/
def State.failReceive (s : State) (code : ErrCode) : State :=
  (if code = .protoTransportFailure then s else s.emit .rxClose).fail code

/-- R35, R36: a 32-bit counter that saturates (R12 `sat_32`). -/
def satAdd (v : Word) (n : Nat) : Word := BitVec.ofNat 32 (min (v.toNat + n) (2 ^ 32 - 1))

/-- R131, R132: the reset event. Registers and hidden state take their reset values; BUF, PAY, the parameters, the
Channel's queue and what was already emitted stay (log 14). -/
def State.restart (s : State) : State :=
  { State.powerOn s.cfg s.powerUp with
    buf := s.buf, pay := s.pay, turn := s.turn, events := s.events, rxq := s.rxq,
    emitted := s.emitted, hostData := s.hostData }

/-! The presentation of a command word at CMD, and the EXEC step of a codec command. -/

/-- R75, R76: a command word reaches CMD. Idle, it is accepted: the common clearing, then `dispatch`.
Busy, it is dropped and sets CMD_OVERRUN. -/
def present (dispatch : State → State) (s : State) : State :=
  if s.phase = .idle then dispatch s.accept else s.flagOverrun

/-- R82: an illegal word is presented. -/
def illegalCommand (s : State) : State := present (fun t => t.fail .badCommand) s

/-- R75, R78: a codec command with opcode `op`. On the Host's turn it is presented, and acceptance makes it pend; on
the Engine's turn, in PHASE = EXEC with PEND_OP = `op`, its whole rule is performed. On no other turn is a step of it
enabled (R79). -/
def codecCommand (op : Byte) (atAcceptance perform : State → State) (s : State) :
    Host.Outcome State Fault Refusal :=
  match s.turn with
  | .host => .next (present (fun t => (atAcceptance t).pend op) s)
  | .engine => if s.phase = .exec ∧ s.pendOp = op then .next (perform s) else .next s
  | .answer _ => .next s
  | .deliver => .next s
  | .reset => .next s

/-- R75: a command whose acceptance is `dispatch` and whose further steps, if any, are joined to the Channel's
answers (`onAnswer`). -/
def transferCommand (dispatch : State → State) (onAnswer : Answer → State → State) (s : State) :
    Host.Outcome State Fault Refusal :=
  match s.turn with
  | .host => .next (present dispatch s)
  | .answer r => .next (onAnswer r s)
  | .engine => .next s
  | .deliver => .next s
  | .reset => .next s

end Sys2Proof.Machine
end

