-- ==== Sys2Proof/Machine/Flags.lean ====
section
/-! DEFINITION. The flag words: PHASE and ERR codes, STATUS (10_state.md R21), and the seven checks of VALIDATE
(41_codec.md R85 to R87) with the word VCHECK (10_state.md R29). -/

namespace Sys2Proof.Machine

/-- R23: the value of PHASE in STATUS[3:1]. -/
def Phase.value : Phase → Nat
  | .idle => 0
  | .exec => 1
  | .rxMeta => 2
  | .rxChunks => 3
  | .txMeta => 4
  | .txChunks => 5
  | .txEnd => 6

/-- R118: the code in ERR[7:0]. -/
def ErrCode.code : ErrCode → Nat
  | .none => 0x00
  | .formatTruncated => 0x01
  | .protoNoMetadata => 0x02
  | .protoTransportFailure => 0x03
  | .protoMalformed => 0x04
  | .capacity => 0x05
  | .noContainer => 0x06
  | .badCommand => 0x07

/-- R21: STATUS as the host reads it. -/
def State.statusWord (s : State) : Word :=
  BitVec.ofNat 32
    (s.busy.toNat + 2 * s.phase.value + 2 ^ 4 * s.done.toNat + 2 ^ 5 * s.failed.toNat + 2 ^ 6 * s.cpres.toNat +
      2 ^ 7 * s.vdone.toNat + 2 ^ 8 * s.valid.toNat + 2 ^ 9 * s.sizeMismatch.toNat +
      2 ^ 10 * s.cmdOverrun.toNat + 2 ^ 11 * s.hostConflict.toNat)

/-- "RIFF" read little-endian (R66). -/
abbrev magicRiff : Word := 0x46464952

/-- "WAVE" read little-endian (R66). -/
abbrev magicWave : Word := 0x45564157

/-- "fmt " read little-endian (R66). -/
abbrev magicFmt : Word := 0x20746D66

/-- "data" read little-endian (R66). -/
abbrev magicData : Word := 0x61746164

/-- R85 b0. -/
def Container.riffOk (c : Container) : Bool := decide (c.riffId = magicRiff)

/-- R85 b1. -/
def Container.waveOk (c : Container) : Bool := decide (c.waveId = magicWave)

/-- R85 b2. -/
def Container.fmtIdOk (c : Container) : Bool := decide (c.fmtId = magicFmt)

/-- R85 b3. -/
def Container.dataIdOk (c : Container) : Bool := decide (c.dataId = magicData)

/-- R85 b4, the byte-rate invariant, on exact naturals (R86). -/
def Container.byteRateOk (c : Container) : Bool :=
  decide (c.byteRate.toNat = c.sampleRate.toNat * c.channels.toNat * c.bits.toNat / 8)

/-- R85 b5, the block-align invariant, on exact naturals (R86). -/
def Container.blockAlignOk (c : Container) : Bool :=
  decide (c.blockAlign.toNat = c.channels.toNat * c.bits.toNat / 8)

/-- R85 b6, the total-size invariant, on exact naturals (R86). -/
def Container.totalSizeOk (c : Container) : Bool :=
  decide (c.totalSize.toNat = 4 + (8 + c.fmtSize.toNat) + (8 + c.dataSize.toNat))

/-- R85: the word VALIDATE writes to VCHECK. C_FMT_TAG enters no check and C_FMT_SIZE only b6 (R87). -/
def Container.checks (c : Container) : BitVec 7 :=
  BitVec.ofNat 7
    (c.riffOk.toNat * 1 + c.waveOk.toNat * 2 + c.fmtIdOk.toNat * 4 + c.dataIdOk.toNat * 8 +
      c.byteRateOk.toNat * 16 + c.blockAlignOk.toNat * 32 + c.totalSizeOk.toNat * 64)

/-- R85: the bit VALIDATE writes to VALID. -/
def Container.isValid (c : Container) : Bool :=
  c.riffOk && c.waveOk && c.fmtIdOk && c.dataIdOk && c.byteRateOk && c.blockAlignOk && c.totalSizeOk

end Sys2Proof.Machine
end

