-- ==== Sys2Proof/Machine/Operands.lean ====
section
/-! DEFINITION. The forms operands take: the register window (10_state.md R18 to R38), the access widths of the memories
(20_memory.md R47, R48), the container image (30_encoding.md R65 to R67), the field assignment of CONSTRUCT
(41_codec.md R91), and the frame SEND offers (42_encoder.md R95 to R98). -/

namespace Sys2Proof.Machine

/-! The register window. -/

/-- R19 `HW_ID`: "TAWC" read little-endian. -/
abbrev hwId : Word := 0x43574154

/-- R18: the register at a byte offset of REG; none at a reserved offset. -/
def regAt (off : Nat) : Option Reg :=
  match off with
  | 0x00 => some .id
  | 0x04 => some .cmd
  | 0x08 => some .status
  | 0x0C => some .err
  | 0x10 => some .vcheck
  | 0x14 => some .bufLen
  | 0x18 => some .cRiffId
  | 0x1C => some .cTotalSize
  | 0x20 => some .cWaveId
  | 0x24 => some .cFmtId
  | 0x28 => some .cFmtSize
  | 0x2C => some .cFmtTag
  | 0x30 => some .cChannels
  | 0x34 => some .cSampleRate
  | 0x38 => some .cByteRate
  | 0x3C => some .cBlockAlign
  | 0x40 => some .cBits
  | 0x44 => some .cDataId
  | 0x48 => some .cDataSize
  | 0x4C => some .rxDeclLen
  | 0x50 => some .xferBytes
  | 0x54 => some .xferFrags
  | 0x58 => some .cfgFragMax
  | 0x5C => some .cfgPayBytes
  | 0x60 => some .cfgBufBytes
  | _ => none

/-- What a register reads (R19 to R37); 16-bit fields zero-extended (R33). -/
def State.readReg (s : State) : Reg → Word
  | .id => hwId
  | .cmd => 0
  | .status => s.statusWord
  | .err => BitVec.ofNat 32 s.err.code
  | .vcheck => s.vcheck.setWidth 32
  | .bufLen => s.bufLen
  | .cRiffId => s.c.riffId
  | .cTotalSize => s.c.totalSize
  | .cWaveId => s.c.waveId
  | .cFmtId => s.c.fmtId
  | .cFmtSize => s.c.fmtSize
  | .cFmtTag => s.c.fmtTag.setWidth 32
  | .cChannels => s.c.channels.setWidth 32
  | .cSampleRate => s.c.sampleRate
  | .cByteRate => s.c.byteRate
  | .cBlockAlign => s.c.blockAlign.setWidth 32
  | .cBits => s.c.bits.setWidth 32
  | .cDataId => s.c.dataId
  | .cDataSize => s.c.dataSize
  | .rxDeclLen => s.rxDeclLen
  | .xferBytes => s.xferBytes
  | .xferFrags => s.xferFrags
  | .cfgFragMax => BitVec.ofNat 32 s.cfg.fragMax
  | .cfgPayBytes => BitVec.ofNat 32 s.cfg.payBytes
  | .cfgBufBytes => BitVec.ofNat 32 s.cfg.bufBytes

/-- R38: a read of REG at an offset; a reserved offset reads 0. -/
def State.readRegAt (s : State) (off : Nat) : Word :=
  match regAt off with
  | some r => s.readReg r
  | none => 0

/-- R32, R33: the C_* registers after a taken host write of `v` to register `r`; none where `r` is no C_* register. -/
def Container.put (c : Container) (r : Reg) (v : Word) : Option Container :=
  match r with
  | .cRiffId => some { c with riffId := v }
  | .cTotalSize => some { c with totalSize := v }
  | .cWaveId => some { c with waveId := v }
  | .cFmtId => some { c with fmtId := v }
  | .cFmtSize => some { c with fmtSize := v }
  | .cFmtTag => some { c with fmtTag := v.setWidth 16 }
  | .cChannels => some { c with channels := v.setWidth 16 }
  | .cSampleRate => some { c with sampleRate := v }
  | .cByteRate => some { c with byteRate := v }
  | .cBlockAlign => some { c with blockAlign := v.setWidth 16 }
  | .cBits => some { c with bits := v.setWidth 16 }
  | .cDataId => some { c with dataId := v }
  | .cDataSize => some { c with dataSize := v }
  | .id | .cmd | .status | .err | .vcheck | .bufLen => none
  | .rxDeclLen | .xferBytes | .xferFrags | .cfgFragMax | .cfgPayBytes | .cfgBufBytes => none

/-- A host write to a register other than CMD. RW registers (BUF_LEN and the C_*) take it while idle and drop it
while busy (R30, R32, R50); RO registers and reserved offsets ignore it (R38). -/
def State.writeReg (s : State) (r : Option Reg) (v : Word) : State :=
  match r with
  | none => s
  | some .bufLen => if s.busy then s.flagConflict else { s with bufLen := v }
  | some r =>
    match s.c.put r v with
    | none => s
    | some c => if s.busy then s.flagConflict else { s with c := c }.clearValidation

/-! Host access widths. -/

/-- The number of bytes an access moves. An access of another width than 8, 16 or 32 bits is a bus error and moves none
(R49). -/
def Width.bytes : Width → Nat
  | .w8 => 1
  | .w16 => 2
  | .w32 => 4
  | .other => 0

/-- R48: an access of 8, 16 or 32 bits, naturally aligned, within a memory of `size` bytes. -/
def admittedIn (size : Nat) (w : Width) (a : Nat) : Bool :=
  decide (w ≠ .other) && decide (a % w.bytes = 0) && decide (a + w.bytes ≤ size)

/-- R47, R48: the accesses the block admits; any other is a bus error (R49). REG is 256 bytes (R43). -/
def admitted (cfg : Config) (sp : Space) (w : Width) (a : Nat) : Bool :=
  match sp with
  | .reg => decide (w = .w32) && admittedIn 256 w a
  | .buf => admittedIn cfg.bufBytes w a
  | .pay => admittedIn cfg.payBytes w a

/-- R46, R48: the little-endian value of the bytes read, zero-extended. -/
def wordOfBytes : List Byte → Word
  | [] => 0
  | b :: bs => BitVec.ofNat 32 (b.toNat + 256 * (wordOfBytes bs).toNat)

/-- R48: the bytes a write of `v` stores. -/
def bytesOfWord (w : Width) (v : Word) : List Byte := (bytes32 v).take w.bytes

/-! The container image. -/

/-- R66: the C_* registers an image gives. -/
def Container.parse (img : List Byte) : Container :=
  { riffId := le32 img 0, totalSize := le32 img 4, waveId := le32 img 8, fmtId := le32 img 12,
    fmtSize := le32 img 16, fmtTag := le16 img 20, channels := le16 img 22, sampleRate := le32 img 24,
    byteRate := le32 img 28, blockAlign := le16 img 32, bits := le16 img 34, dataId := le32 img 36,
    dataSize := le32 img 40 }

/-- R67: the 44 header bytes of `Image()`. -/
def Container.header (c : Container) : List Byte :=
  bytes32 c.riffId ++ bytes32 c.totalSize ++ bytes32 c.waveId ++
  bytes32 c.fmtId ++ bytes32 c.fmtSize ++ bytes16 c.fmtTag ++
  bytes16 c.channels ++ bytes32 c.sampleRate ++ bytes32 c.byteRate ++
  bytes16 c.blockAlign ++ bytes16 c.bits ++
  bytes32 c.dataId ++ bytes32 c.dataSize

/-- R67 `Image()`. -/
def State.image (s : State) : List Byte := s.c.header ++ s.readPay 0 s.c.dataSize.toNat

/-- R91 `ConstructFields`. Under its precondition `n` ≤ PAY_BYTES the sum 4 + (8 + 16) + (8 + n) does not wrap. -/
def constructFields (ch : Half) (sr br : Word) (ba bps : Half) (n : Word) : Container :=
  { riffId := magicRiff, totalSize := BitVec.ofNat 32 (4 + (8 + 16) + (8 + n.toNat)), waveId := magicWave,
    fmtId := magicFmt, fmtSize := 16, fmtTag := 1, channels := ch, sampleRate := sr, byteRate := br,
    blockAlign := ba, bits := bps, dataId := magicData, dataSize := n }

/-! The transmit port. -/

/-- R97: the length of the next fragment. -/
def State.fragLen (s : State) : Nat := min s.cfg.fragMax (s.txN.toNat - s.xferBytes.toNat)

/-- The frame SEND offers in this state, if it offers one (R41, R95, R97, R98). -/
def State.offered (s : State) : Option Instr :=
  match s.phase with
  | .txMeta => some (.metaFrame s.c.channels s.c.sampleRate s.c.byteRate s.c.blockAlign s.c.bits s.txN)
  | .txChunks => some (.chunkFrame (s.readPay s.xferBytes.toNat s.fragLen))
  | .txEnd => some .endFrame
  | .idle => none
  | .exec => none
  | .rxMeta => none
  | .rxChunks => none

end Sys2Proof.Machine
end

