-- ==== Sys2Proof/Machine/Codec.lean ====
section
/-! DEFINITION. The container codec: DECODE, VALIDATE, ENCODE and CONSTRUCT (41_codec.md). -/

namespace Sys2Proof.Machine

/-- R84, the EXEC step of DECODE. -/
def performDecode (s : State) : State :=
  let L := s.bufLen.toNat
  if s.cfg.bufBytes < L then s.fail .capacity
  else if L < hdrBytes then s.fail .formatTruncated
  else
    let N := (le32 (s.readBuf 40 4) 0).toNat
    if L - hdrBytes < N then s.fail .formatTruncated
    else if s.cfg.payBytes < N then s.fail .capacity
    else
      let img := s.readBuf 0 (hdrBytes + N)
      { s.writePay 0 (img.drop hdrBytes) with c := .parse img, cpres := true }.complete

/-- R85, the EXEC step of VALIDATE. -/
def performValidate (s : State) : State :=
  if s.cpres = false then s.fail .noContainer
  else { s with vcheck := s.c.checks, valid := s.c.isValid, vdone := true }.complete

/-- R88, the EXEC step of ENCODE. -/
def performEncode (s : State) : State :=
  let N := s.c.dataSize.toNat
  if s.cpres = false then s.fail .noContainer
  else if s.cfg.payBytes < N ∨ s.cfg.bufBytes < hdrBytes + N then s.fail .capacity
  else { s.writeBuf 0 s.image with bufLen := BitVec.ofNat 32 (hdrBytes + N) }.complete

/-- R90, the EXEC step of CONSTRUCT. -/
def performConstruct (s : State) : State :=
  if s.cfg.payBytes < s.c.dataSize.toNat then s.fail .capacity
  else
    { s with
      c := constructFields s.c.channels s.c.sampleRate s.c.byteRate s.c.blockAlign s.c.bits s.c.dataSize,
      cpres := true }.complete

/-- DECODE (R84). -/
def execDecode (s : State) : Host.Outcome State Fault Refusal :=
  codecCommand 0x01 State.discardContainer performDecode s

/-- VALIDATE (R85). -/
def execValidate (s : State) : Host.Outcome State Fault Refusal :=
  codecCommand 0x02 id performValidate s

/-- ENCODE (R88). -/
def execEncode (s : State) : Host.Outcome State Fault Refusal :=
  codecCommand 0x03 id performEncode s

/-- CONSTRUCT (R90). -/
def execConstruct (s : State) : Host.Outcome State Fault Refusal :=
  codecCommand 0x04 State.discardContainer performConstruct s

end Sys2Proof.Machine
end

