-- ==== Sys2Proof/Machine/Control.lean ====
section
/-! DEFINITION. ABORT (40_dispatch.md R83). -/

namespace Sys2Proof.Machine

/-- R83: ABORT is presented at CMD. -/
def presentAbort (s : State) : State :=
  match s.phase with
  | .txMeta => (s.emit .txClose).fail .protoTransportFailure
  | .txChunks => (s.emit .txClose).fail .protoTransportFailure
  | .txEnd => (s.emit .txClose).fail .protoTransportFailure
  | .rxMeta => (s.emit .rxClose).fail .protoTransportFailure
  | .rxChunks => (s.emit .rxClose).fail .protoTransportFailure
  | .idle => s.accept.complete
  | .exec => s.flagOverrun

/-- ABORT (R83). It acts at its presentation only. -/
def execAbort (s : State) : Host.Outcome State Fault Refusal :=
  match s.turn with
  | .host => .next (presentAbort s)
  | .engine => .next s
  | .answer _ => .next s
  | .deliver => .next s
  | .reset => .next s

end Sys2Proof.Machine
end

