-- ==== Sys2Proof/Machine/Receiver.lean ====
section
/-! DEFINITION. The transfer decoder: RECEIVE and the taking of META, CHUNK and END frames (43_decoder.md). -/

namespace Sys2Proof.Machine

/-- R103: the acceptance of RECEIVE, after the common clearing. -/
def startReceive (s : State) : State :=
  { s.discardContainer.clearCounters with rxDeclLen := 0, phase := .rxMeta }

/-- R104: one well-formed frame is taken, with its rule in RX_META and its rule in RX_CHUNKS. In any other phase the
block takes no receive event: the frame stays in the Channel (R104, log 13). -/
def takeFrame (inMeta inChunks : State → State) (s : State) : Host.Outcome State Fault Refusal :=
  match s.phase with
  | .rxMeta => .next (inMeta s)
  | .rxChunks => .next (inChunks s)
  | .idle => .next s
  | .exec => .next s
  | .txMeta => .next s
  | .txChunks => .next s
  | .txEnd => .next s

/-- R105: META in RX_META. -/
def acceptMeta (ch : Half) (sr br : Word) (ba bps : Half) (len : Word) (s : State) : State :=
  let t := { s with rx := { ch := ch, sr := sr, br := br, ba := ba, bps := bps }, rxDeclLen := len }
  if t.cfg.payBytes < len.toNat then t.failReceive .capacity else { t with phase := .rxChunks }

/-- R107: CHUNK in RX_CHUNKS. Byte i lands at PAY[XFER_BYTES + i] where that is below RX_DECL_LEN; the others are
discarded but counted (R111). -/
def acceptChunk (body : List Byte) (s : State) : State :=
  let base := s.xferBytes.toNat
  { s.writePay base (body.take (s.rxDeclLen.toNat - base)) with
    xferBytes := satAdd s.xferBytes body.length, xferFrags := satAdd s.xferFrags 1 }

/-- R109: END in RX_CHUNKS. -/
def acceptEnd (s : State) : State :=
  { s with
    sizeMismatch := decide (s.xferBytes ≠ s.rxDeclLen),
    c := constructFields s.rx.ch s.rx.sr s.rx.br s.rx.ba s.rx.bps s.rxDeclLen,
    cpres := true }.complete

/-- RECEIVE (R103). Its later steps are those of the frames and events it takes (R104). -/
def execReceive (s : State) : Host.Outcome State Fault Refusal :=
  transferCommand startReceive (fun _ t => t) s

/-- META (R105; a second one R108). -/
def execMetaFrame (ch : Half) (sr br : Word) (ba bps : Half) (len : Word) (s : State) :
    Host.Outcome State Fault Refusal :=
  takeFrame (acceptMeta ch sr br ba bps len) (fun t => t.failReceive .protoMalformed) s

/-- CHUNK (R107; before any META R106). -/
def execChunkFrame (body : List Byte) (s : State) : Host.Outcome State Fault Refusal :=
  takeFrame (fun t => t.failReceive .protoNoMetadata) (acceptChunk body) s

/-- END (R109; before any META R106). -/
def execEndFrame (s : State) : Host.Outcome State Fault Refusal :=
  takeFrame (fun t => t.failReceive .protoNoMetadata) acceptEnd s

end Sys2Proof.Machine
end

