-- ==== Sys2Proof/Machine/Sender.lean ====
section
/-! DEFINITION. The transfer encoder: SEND (42_encoder.md). -/

namespace Sys2Proof.Machine

/-- R94: the acceptance of SEND, after the common clearing, line by line: both checks before the first write (D16), so a
SEND that fails here leaves XFER_BYTES, XFER_FRAGS and TX_N as they were (R14, R120). DEDUCED: the zeroing that R35, R36
and D45 place at acceptance is this rule's own write, which a SEND that fails does not reach (log 26). -/
def startSend (s : State) : State :=
  if s.cpres = false then s.fail .noContainer
  else if s.cfg.payBytes < s.c.dataSize.toNat then s.fail .capacity
  else { s.clearCounters with txN := s.c.dataSize, phase := .txMeta }

/-- What follows a frame answered OK: R96 after META, R97 after a CHUNK, R98 after END. -/
def advanceSend (s : State) : State :=
  match s.phase with
  | .txMeta => if s.txN = 0 then { s with phase := .txEnd } else { s with phase := .txChunks }
  | .txChunks =>
    let next := s.xferBytes.toNat + s.fragLen
    { s with
      xferBytes := BitVec.ofNat 32 next,
      xferFrags := satAdd s.xferFrags 1,
      phase := if next = s.txN.toNat then .txEnd else .txChunks }
  | .txEnd => s.complete
  | .idle => s
  | .exec => s
  | .rxMeta => s
  | .rxChunks => s

/-- R96, R97, R98: the Channel answers the offered frame. FAIL ends SEND (R99). Where no frame is offered there is
nothing to answer (R79, R121). -/
def answerSend (r : Answer) (s : State) : State :=
  match s.offered with
  | none => s
  | some i =>
    match r with
    | .fail => (s.emit (.frame (encode i) .fail)).fail .protoTransportFailure
    | .ok => advanceSend (s.emit (.frame (encode i) .ok))

/-- SEND (R94 to R99). -/
def execSend (s : State) : Host.Outcome State Fault Refusal :=
  transferCommand startSend answerSend s

end Sys2Proof.Machine
end

