-- ==== Sys2Proof/Machine/Dispatch.lean ====
section
/-! DEFINITION. The meaning of every row of spec/opcode_table.json. -/

namespace Sys2Proof.Machine

def exec (i : Instr) (s : State) : Host.Outcome State Fault Refusal :=
  match i with
  | .decode => Sys2Proof.Machine.execDecode s
  | .validate => Sys2Proof.Machine.execValidate s
  | .encode => Sys2Proof.Machine.execEncode s
  | .construct => Sys2Proof.Machine.execConstruct s
  | .send => Sys2Proof.Machine.execSend s
  | .receive => Sys2Proof.Machine.execReceive s
  | .abort => Sys2Proof.Machine.execAbort s
  | .metaFrame ch sr br ba bps len => Sys2Proof.Machine.execMetaFrame ch sr br ba bps len s
  | .chunkFrame body => Sys2Proof.Machine.execChunkFrame body s
  | .endFrame => Sys2Proof.Machine.execEndFrame s

end Sys2Proof.Machine
end

