-- ==== Sys2Proof/Machine/Fetch.lean ====
section
/-! DEFINITION. The next step of the interleaving (20_memory.md R55, R56): which agent moves, and whether its step is a host
access (R47 to R51), runs an encoded instruction (a word at CMD, the pending codec command, the running SEND's answered
frame, a delivered frame), or is none of these. -/

namespace Sys2Proof.Machine

/-- What a step comes to. -/
inductive Action where
  /-- The instruction runs in this state. -/
  | run (i : Instr) (s : State)
  /-- The step is done without an instruction. -/
  | done (s : State)
  /-- The step stops. -/
  | stop (f : Fault)
deriving DecidableEq, Repr

/-- The next event. When none is listed the Engine moves: the EXEC step is eventually taken (R80, log 5). -/
def State.nextEvent (s : State) : Event :=
  match s.events with
  | [] => .engine
  | e :: _ => e

/-- Whose step an event is (R10). -/
def Event.turn : Event → Turn
  | .host _ => .host
  | .engine => .engine
  | .answer r => .answer r
  | .deliver => .deliver
  | .reset => .reset

/-- The state in which the next event acts: the event is taken off the list and its agent has the turn. -/
def State.begin (s : State) : State :=
  { s with events := s.events.tail, turn := s.nextEvent.turn }

/-- A host read returns its value and changes nothing of the block (R51). -/
def hostRead (sp : Space) (w : Width) (a : Nat) (s : State) : State :=
  match sp with
  | .reg => { s with hostData := some (s.readRegAt a) }
  | .buf => { s with hostData := some (wordOfBytes (s.readBuf a w.bytes)) }
  | .pay => { s with hostData := some (wordOfBytes (s.readPay a w.bytes)) }

/-- A word is presented at CMD (R20, R75): a legal one is run, an illegal one is R82's. The word reaches the decoder as
its four bytes, low byte first. -/
def presentWord (v : Word) (s : State) : Action :=
  match decode .cmd (bytes32 v) with
  | .ok i => .run i s
  | .reject _ => .done (illegalCommand s)

/-- A host write. REG: CMD is R75's, the others R30, R32 and R38's. BUF and PAY: stored while idle, dropped while
busy (R48, R50). -/
def hostWrite (sp : Space) (w : Width) (a : Nat) (v : Word) (s : State) : Action :=
  match sp with
  | .reg => if regAt a = some .cmd then presentWord v s else .done (s.writeReg (regAt a) v)
  | .buf => .done (if s.busy then s.flagConflict else s.writeBuf a (bytesOfWord w v))
  | .pay => .done (if s.busy then s.flagConflict else s.writePay a (bytesOfWord w v))

/-- A host access (R47, R48); one that is not admitted is a bus error (R49). -/
def hostAccess (x : Access) (s : State) : Action :=
  match x with
  | .read sp w a => if admitted s.cfg sp w a then .done (hostRead sp w a s) else .stop .busError
  | .write sp w a v => if admitted s.cfg sp w a then hostWrite sp w a v s else .stop .busError

/-- The codec command whose EXEC step PEND_OP names (R78); none for any other opcode. -/
def pendingCommand (op : Byte) : Option Instr :=
  match decodeCommand (op.setWidth 32) with
  | .ok .decode => some .decode
  | .ok .validate => some .validate
  | .ok .encode => some .encode
  | .ok .construct => some .construct
  | _ => none

/-- The Engine's own step: enabled in PHASE = EXEC only (R79). -/
def engineStep (s : State) : Action :=
  if s.phase = .exec then
    match pendingCommand s.pendOp with
    | some i => .run i s
    | none => .stop .illegalPending
  else .done s

/-- The Channel delivers its next receive event, if it holds one and the block is ready (R104). LINK_ERROR is R113's,
a malformed frame R114's; a well-formed frame is run. -/
def deliverStep (s : State) : Action :=
  if s.receiving then
    match s.rxq with
    | [] => .done s
    | .linkError :: q => .done ({ s with rxq := q }.failReceive .protoTransportFailure)
    | .frame f :: q =>
      match decode .channel f with
      | .ok i => .run i { s with rxq := q }
      | .reject _ => .done ({ s with rxq := q }.failReceive .protoMalformed)
  else .done s

/-- The step the next event is. -/
def fetch (s : State) : Action :=
  match s.nextEvent with
  | .host x => hostAccess x s.begin
  | .engine => engineStep s.begin
  | .answer _ => if s.sending then .run .send s.begin else .done s.begin
  | .deliver => deliverStep s.begin
  | .reset => .done s.begin.restart

/-! Placing an instruction where the next step finds it. -/

/-- The host event that writes a word to CMD. -/
def cmdWrite (v : Word) : Event := .host (.write .reg .w32 0x04 v)

/-- The next step presents the word at CMD. -/
def State.placeCommand (s : State) (v : Word) : State := { s with events := cmdWrite v :: s.events }

/-- The next step delivers the frame. The block must be receiving to take it: where it is not, META is placed in RX_META
and any other frame in RX_CHUNKS, the phase in which its rule runs (log 15). -/
def State.placeFrame (s : State) (f : List Byte) : State :=
  { s with
    events := .deliver :: s.events, rxq := .frame f :: s.rxq,
    phase := if s.receiving then s.phase else if byteAt f 0 = 0x01 then .rxMeta else .rxChunks }

/-- Place a word of the opcode table, read as `decodeTableWord` reads it. -/
def State.placeTableWord (s : State) (nbits w : Nat) : State :=
  if isTableCommand nbits w then s.placeCommand (BitVec.ofNat 32 (w % 2 ^ nbits))
  else s.placeFrame (frameOfTable nbits w)

end Sys2Proof.Machine
end

