-- ==== Sys2Proof/Machine/Step.lean ====
section
/-! DEFINITION. One step of the machine (20_memory.md R55): the next event of the interleaving, and the instruction it
runs, if it runs one. -/

namespace Sys2Proof.Machine

/-- One step of one agent (R55). -/
def step (s : State) : Host.Outcome State Fault Refusal :=
  match fetch s with
  | .run i t => exec i t
  | .done t => .next t
  | .stop f => .fault f

/-- The state in which the next step runs exactly the instruction whose table bits are `w` (log 12, 15). -/
def State.withFetchWord (s : State) (nbits w : Nat) : State := s.placeTableWord nbits w

end Sys2Proof.Machine
end

