-- ==== Sys2Proof/Safety.lean ====
section
/-! DEFINITION. What counts as a good state of the machine, in the terms the statements use: the invariant every step
keeps, and the accesses of the Host that are no bus error. -/

namespace Sys2Proof.Machine

/-- The invariant of the machine: what the rules cited at each field promise of every state a run reaches. -/
structure State.Inv (s : State) : Prop where
  /-- BUF and PAY are in canonical form. -/
  buf_wf : Memory.wf s.buf = true
  pay_wf : Memory.wf s.pay = true
  /-- No byte outside BUF or PAY was ever written (R53, R48, R111). -/
  buf_range : Memory.below s.cfg.bufBytes s.buf = true
  pay_range : Memory.below s.cfg.payBytes s.pay = true
  /-- R25, R29: VALID and VCHECK are 0 whenever VDONE = 0. -/
  not_validated : s.vdone = false → s.valid = false ∧ s.vcheck = 0
  /-- R25: VDONE = 1 means VCHECK and VALID describe the current C_* registers; a container is then present. -/
  validated : s.vdone = true → s.vcheck = s.c.checks ∧ s.valid = s.c.isValid ∧ s.cpres = true
  /-- R21, R75, R120: while busy no command is recorded as ended. -/
  done_idle : s.done = true → s.phase = .idle
  /-- R28, R81, R120: FAILED goes with DONE and with a code in ERR. -/
  failed_done : s.failed = true → s.done = true
  failed_err : s.failed = true ↔ s.err ≠ .none
  /-- R26, R109: SIZE_MISMATCH records a completed RECEIVE whose counts differ. -/
  mismatch : s.sizeMismatch = true → s.phase = .idle ∧ s.cpres = true ∧ s.xferBytes ≠ s.rxDeclLen
  /-- R75, R78: in EXEC a codec command is pending, and a container-replacing one has emptied the slot (R24). -/
  exec_pending : s.phase = .exec → s.pendOp = 1 ∨ s.pendOp = 2 ∨ s.pendOp = 3 ∨ s.pendOp = 4
  exec_replacing : s.phase = .exec → s.pendOp = 1 ∨ s.pendOp = 4 → s.cpres = false
  /-- R24, R103: no container is present while RECEIVE runs. -/
  receiving_absent : s.receiving = true → s.cpres = false
  /-- R103: the counters in RX_META. -/
  rxMeta_fresh : s.phase = .rxMeta → s.rxDeclLen = 0 ∧ s.xferBytes = 0 ∧ s.xferFrags = 0
  /-- R105: the declared length in RX_CHUNKS fits PAY. -/
  rxChunks_fits : s.phase = .rxChunks → s.rxDeclLen.toNat ≤ s.cfg.payBytes
  /-- R94, R59: while SEND runs a container is present, TX_N is its C_DATA_SIZE, and it fits PAY. -/
  sending_present : s.sending = true →
    s.cpres = true ∧ s.txN = s.c.dataSize ∧ s.txN.toNat ≤ s.cfg.payBytes
  /-- R94, R96: nothing is sent before META is answered. -/
  txMeta_fresh : s.phase = .txMeta → s.xferBytes = 0 ∧ s.xferFrags = 0
  /-- R97: "off < TX_N in this phase". -/
  txChunks_left : s.phase = .txChunks → s.xferBytes.toNat < s.txN.toNat
  /-- R97: END is offered when every byte has been sent. -/
  txEnd_sent : s.phase = .txEnd → s.xferBytes = s.txN

/-- R47, R48: the host accesses that are no bus error, spelled from the rules. -/
def Access.Legal (cfg : Config) : Access → Prop
  | .read .reg w a => w = .w32 ∧ a % 4 = 0 ∧ a < 256
  | .write .reg w a _ => w = .w32 ∧ a % 4 = 0 ∧ a < 256
  | .read .buf w a => w ≠ .other ∧ a % w.bytes = 0 ∧ a + w.bytes ≤ cfg.bufBytes
  | .write .buf w a _ => w ≠ .other ∧ a % w.bytes = 0 ∧ a + w.bytes ≤ cfg.bufBytes
  | .read .pay w a => w ≠ .other ∧ a % w.bytes = 0 ∧ a + w.bytes ≤ cfg.payBytes
  | .write .pay w a _ => w ≠ .other ∧ a % w.bytes = 0 ∧ a + w.bytes ≤ cfg.payBytes

/-- The next step is no bus error: a host access, if it is one, is legal. -/
def State.HostBehaves (s : State) : Prop := ∀ x, s.nextEvent = .host x → x.Legal s.cfg

end Sys2Proof.Machine
end

