-- ==== Sys2Proof/Certificates/Slice0/Obligations.lean ====
section
/-! DEFINITION. The statements for the provers, and the few definitions they are written in. A statement about an
instruction names `exec`, one about the machine `step`; `t = { s with f := t.f, … }` says that every field but the
ones listed is unchanged (its frame). The model's own fields (turn, events, rxq, emitted, hostData) are logged in
notes/assumptions 5 to 8. -/

open Sys2Proof Sys2Proof.Machine

namespace Sys2Proof.Claims

/-! What the rules say a command leaves in STATUS and ERR, spelled from the rules. -/

/-- R120: the four writes of `raise FAIL(code)`. -/
def failedWith (s : State) (code : ErrCode) : State :=
  { s with phase := .idle, done := true, failed := true, err := code }

/-- R81: the four writes of `complete()`. -/
def succeeded (s : State) : State :=
  { s with phase := .idle, done := true, failed := false, err := .none }

/-- R75: the common clearing of acceptance. -/
def cleared (s : State) : State :=
  { s with done := false, failed := false, err := .none,
           sizeMismatch := false, cmdOverrun := false, hostConflict := false }

/-- R24, R25: the slot after a container-replacing command was accepted. -/
def emptied (s : State) : State :=
  { s with cpres := false, vdone := false, valid := false, vcheck := 0 }

/-- R35, R36: the counters when SEND or RECEIVE starts. -/
def uncounted (s : State) : State := { s with xferBytes := 0, xferFrags := 0 }

/-- R63: an illegal command word. -/
def IllegalWord (w : Word) : Prop :=
  w.toNat / 256 ≠ 0 ∨ w.toNat % 256 = 0 ∨ 8 ≤ w.toNat % 256

/-- R72 `FrameOK(f)`. -/
def FrameOK (f : List Byte) : Prop :=
  4 ≤ f.length ∧
  byteAt f 1 = 0 ∧
  (byteAt f 0 = 0x01 ∨ byteAt f 0 = 0x02 ∨ byteAt f 0 = 0x03) ∧
  (le16 f 2).toNat = f.length - 4 ∧
  (byteAt f 0 = 0x01 → (le16 f 2).toNat = 18) ∧
  (byteAt f 0 = 0x03 → (le16 f 2).toNat = 0) ∧
  (byteAt f 0 = 0x02 → (le16 f 2).toNat ≤ 5120)

/-- A transfer is running (R76): the phases in which ABORT ends it. -/
def Transferring (s : State) : Prop :=
  s.phase = .rxMeta ∨ s.phase = .rxChunks ∨ s.phase = .txMeta ∨ s.phase = .txChunks ∨ s.phase = .txEnd

/-- The Engine's turn at the EXEC step of the codec command with opcode `op` (R78). -/
def AtExecStep (op : Byte) (s : State) : Prop := s.turn = .engine ∧ s.phase = .exec ∧ s.pendOp = op

/-- A command word is presented to an idle block (R75). -/
def PresentedIdle (s : State) : Prop := s.turn = .host ∧ s.phase = .idle

/-! The frames of R68 to R70, spelled from the rules. -/

/-- R95 `MetaFrame()`. -/
def metaBytes (c : Container) (n : Word) : List Byte :=
  [0x01, 0x00] ++ bytes16 18 ++ bytes16 c.channels ++ bytes32 c.sampleRate ++ bytes32 c.byteRate ++
    bytes16 c.blockAlign ++ bytes16 c.bits ++ bytes32 n

/-- R97: a CHUNK frame. -/
def chunkBytes (body : List Byte) : List Byte := [0x02, 0x00] ++ bytes16 (BitVec.ofNat 16 body.length) ++ body

/-- R98: the END frame. -/
def endBytes : List Byte := [0x03, 0x00, 0x00, 0x00]

/-- R100: how many CHUNK frames a payload of `n` bytes takes in fragments of `f` bytes, ceil(n / f). -/
def chunkCount (n f : Nat) : Nat := (n + f - 1) / f

/-- R100: the body of CHUNK number `j`, counted from 0, of the present container. -/
def fragment (s : State) (j : Nat) : List Byte :=
  s.readPay (j * s.cfg.fragMax) (min s.cfg.fragMax (s.c.dataSize.toNat - j * s.cfg.fragMax))

/-- The number of CHUNK frames SEND needs for the present container (R100). -/
def fragCount (s : State) : Nat := chunkCount s.c.dataSize.toNat s.cfg.fragMax

/-- R101: the whole transmit sequence of a successful SEND. -/
def transmitSequence (s : State) : List (List Byte) :=
  [metaBytes s.c s.c.dataSize] ++ (List.range (fragCount s)).map (fun j => chunkBytes (fragment s j)) ++ [endBytes]

/-- The frame offered in a transmit phase (R41), spelled from R95, R97 and R98. -/
def offeredBytes (s : State) : List Byte :=
  match s.phase with
  | .txMeta => metaBytes s.c s.txN
  | .txChunks => chunkBytes (s.readPay s.xferBytes.toNat (min s.cfg.fragMax (s.txN.toNat - s.xferBytes.toNat)))
  | _ => endBytes

/-! Host accesses. -/

/-- The next event is a host access, after it `rest`. -/
def HostNext (s : State) (x : Access) (rest : List Event) : Prop := s.events = .host x :: rest

/-- The state in which a host access acts: it is taken off the events. -/
def hostTurn (s : State) (rest : List Event) : State := { s with events := rest, turn := .host }

/-- A 32-bit host read of REG at `off` returns `v`, whatever comes after it. -/
def Reads (s : State) (off : Nat) (v : Word) : Prop :=
  ∀ rest, HostNext s (.read .reg .w32 off) rest →
    step s = .next { hostTurn s rest with hostData := some v }

/-- The offsets of the C_* registers (R18). -/
def IsFieldOffset (off : Nat) : Prop := 0x18 ≤ off ∧ off ≤ 0x48 ∧ off % 4 = 0

/-- The offsets of the four 16-bit C_* registers (R18, R33). -/
def IsHalfOffset (off : Nat) : Prop := off = 0x2C ∨ off = 0x30 ∨ off = 0x3C ∨ off = 0x40

end Sys2Proof.Claims

open Sys2Proof.Claims

/-! ## Encodings -/

/-- Decode and encode agree: no bit of an operand is dropped. -/
def Obligations.DecodeOfEncodeIsTheInstruction : Prop :=
  ∀ i : Instr, i.WellFormed = true → decode i.port (encode i) = .ok i

/-- Encode and decode agree: each accepted byte string is the one encoding of what it decodes to, and only
well-formed instructions are answered. -/
def Obligations.EncodeOfDecodedBytesGivesThemBack : Prop :=
  ∀ (p : Port) (bs : List Byte) (i : Instr), decode p bs = .ok i →
    i.port = p ∧ i.WellFormed = true ∧ encode i = bs

/-- R62. -/
def Obligations.CommandWordsAreTheOpcodeMap : Prop :=
  ∀ (w : Word) (i : Instr), decode .cmd (bytes32 w) = .ok i ↔
    (w = 0x00000001 ∧ i = .decode) ∨ (w = 0x00000002 ∧ i = .validate) ∨ (w = 0x00000003 ∧ i = .encode) ∨
    (w = 0x00000004 ∧ i = .construct) ∨ (w = 0x00000005 ∧ i = .send) ∨ (w = 0x00000006 ∧ i = .receive) ∨
    (w = 0x00000007 ∧ i = .abort)

/-- R72, R114: a receive frame decodes exactly when it is well-formed, and one that is not fails the transfer, in
either receive phase, with PROTO_MALFORMED and RX_CLOSE, and is consumed. -/
def Obligations.FramesAreWellFormedOrMalformed : Prop :=
  (∀ f : List Byte, (∃ i, decode .channel f = .ok i) ↔ FrameOK f) ∧
  ∀ (s : State) (f : List Byte) (q : List RxEvent) (rest : List Event),
    s.phase = .rxMeta ∨ s.phase = .rxChunks → s.events = .deliver :: rest → s.rxq = .frame f :: q → ¬ FrameOK f →
    step s = .next (failedWith
      { s with events := rest, turn := .deliver, rxq := q, emitted := s.emitted ++ [.rxClose] } .protoMalformed)

/-- Words of the opcode table and frames of the test vectors, written out, decode to what they stand for. -/
def Obligations.SpecWordsDecodeAsListed : Prop :=
  decode .cmd [0x01, 0x00, 0x00, 0x00] = .ok .decode ∧
  decode .cmd [0x04, 0x00, 0x00, 0x00] = .ok .construct ∧
  decode .cmd [0x07, 0x00, 0x00, 0x00] = .ok .abort ∧
  decode .cmd [0x01, 0x01, 0x00, 0x00] = .reject .illegalCommand ∧
  decode .channel [0x01, 0x00, 0x12, 0x00, 0x01, 0x00, 0x40, 0x1F, 0x00, 0x00, 0x80, 0x3E, 0x00, 0x00, 0x02, 0x00,
    0x10, 0x00, 0x0A, 0x00, 0x00, 0x00] = .ok (.metaFrame 1 8000 16000 2 16 10) ∧
  decode .channel [0x02, 0x00, 0x02, 0x00, 0x18, 0x19] = .ok (.chunkFrame [0x18, 0x19]) ∧
  decode .channel [0x03, 0x00, 0x00, 0x00] = .ok .endFrame

/-! ## The machine -/

/-- A step runs the decoded instruction: a legal word the Host writes to CMD, the pending codec command at the EXEC
step (also when no event is listed, R80), the running SEND at the Channel's answer, a delivered well-formed frame. -/
def Obligations.StepRunsTheDecodedInstruction : Prop :=
  (∀ (s : State) (i : Instr) (w : Word) (rest : List Event),
    HostNext s (.write .reg .w32 0x04 w) rest → decode .cmd (bytes32 w) = .ok i →
    step s = exec i (hostTurn s rest)) ∧
  (∀ (s : State) (i : Instr), (i = .decode ∨ i = .validate ∨ i = .encode ∨ i = .construct) →
    decode .cmd (bytes32 (s.pendOp.setWidth 32)) = .ok i → s.phase = .exec →
    (∀ rest, s.events = .engine :: rest → step s = exec i { s with events := rest, turn := .engine }) ∧
    (s.events = [] → step s = exec i { s with turn := .engine })) ∧
  (∀ (s : State) (r : Answer) (rest : List Event),
    s.phase = .txMeta ∨ s.phase = .txChunks ∨ s.phase = .txEnd → s.events = .answer r :: rest →
    step s = exec .send { s with events := rest, turn := .answer r }) ∧
  (∀ (s : State) (i : Instr) (f : List Byte) (q : List RxEvent) (rest : List Event),
    s.phase = .rxMeta ∨ s.phase = .rxChunks → s.events = .deliver :: rest → s.rxq = .frame f :: q →
    decode .channel f = .ok i →
    step s = exec i { s with events := rest, turn := .deliver, rxq := q })

/-- No instruction ends in a fault or a refusal: in every state, of any operands, its meaning answers a next state. Where
the spec gives the instruction a step, that is the step its rules describe. On every other turn and in every other phase
the spec gives it none, and that `exec` answers there, changing nothing, is the model's choice: log 6 (DESIGN CHOICE) for
a command on another agent's turn, log 13 (DEDUCED) for a frame outside RX_META and RX_CHUNKS. -/
def Obligations.EveryInstructionAnswersANextState : Prop :=
  ∀ (i : Instr) (s : State), ∃ t, exec i s = .next t

/-- R9: a configuration exists exactly when its parameters meet the constraints, and it holds those parameters. -/
def Obligations.ParametersOutsideTheirConstraintsAreRejected : Prop :=
  ∀ pay buf frag : Nat,
    ((∃ cfg, Config.ofParams pay buf frag = some cfg) ↔
      (1 ≤ pay ∧ pay ≤ 2 ^ 32 - 45) ∧ (44 + pay ≤ buf ∧ buf ≤ 2 ^ 32 - 1) ∧ (1 ≤ frag ∧ frag ≤ 5120)) ∧
    ∀ cfg, Config.ofParams pay buf frag = some cfg →
      cfg.payBytes = pay ∧ cfg.bufBytes = buf ∧ cfg.fragMax = frag

/-- The invariant is kept by every step, from every state that meets it. -/
def Obligations.StepKeepsTheInvariant : Prop :=
  ∀ s t : State, s.Inv → step s = .next t → t.Inv

/-- Every power-up state meets the invariant, whatever the parameters. -/
def Obligations.PowerOnMeetsTheInvariant : Prop :=
  (∀ (cfg : Config) (p : Nat), (State.powerOn cfg p).Inv) ∧ State.reset.Inv

/-- From a good state a step goes on unless the Host makes an access that is no legal one; it never refuses. -/
def Obligations.GoodStatesStopOnlyAtABusError : Prop :=
  ∀ s : State, s.Inv → (s.HostBehaves ↔ ∃ t, step s = .next t) ∧ (¬ s.HostBehaves → step s = .fault .busError)

/-- R47, R48, R49: a host access of any width is a bus error exactly when no rule admits it, in every state. All widths
but 8, 16 and 32 bits are the one `Width.other` (log 25), which no space admits. -/
def Obligations.BusErrorExactlyOnIllegalAccess : Prop :=
  ∀ (s : State) (x : Access) (rest : List Event), HostNext s x rest →
    (step s = .fault .busError ↔ ¬ x.Legal s.cfg)

/-- R24: which steps write CPRES. It becomes 1 only when DECODE or CONSTRUCT ends at its EXEC step or RECEIVE takes the
END frame, and 0 only when DECODE, CONSTRUCT or RECEIVE is accepted, or at reset. -/
def Obligations.OnlyReplacingCommandsWriteCpres : Prop :=
  ∀ s t : State, step s = .next t →
    (s.cpres = false → t.cpres = true →
      (s.nextEvent = .engine ∧ s.phase = .exec ∧ (s.pendOp = 0x01 ∨ s.pendOp = 0x04)) ∨
      (s.nextEvent = .deliver ∧ s.phase = .rxChunks ∧
        ∃ f q, s.rxq = .frame f :: q ∧ decode .channel f = .ok .endFrame)) ∧
    (s.cpres = true → t.cpres = false →
      s.nextEvent = .reset ∨
      (s.phase = .idle ∧ (s.nextEvent = cmdWrite 0x01 ∨ s.nextEvent = cmdWrite 0x04 ∨ s.nextEvent = cmdWrite 0x06)))

/-- R35, R36: which steps write XFER_BYTES and XFER_FRAGS. A SEND that starts, RECEIVE and reset leave both 0; else
only a CHUNK that the Channel accepts or delivers changes them. That a SEND which fails at its acceptance leaves both as
they were is the model's reading (log 26). -/
def Obligations.OnlyTransfersWriteTheCounters : Prop :=
  ∀ s t : State, step s = .next t →
    (s.phase = .idle → s.nextEvent = cmdWrite 0x06 ∨ (s.nextEvent = cmdWrite 0x05 ∧ t.failed = false) →
      t.xferBytes = 0 ∧ t.xferFrags = 0) ∧
    (s.nextEvent = .reset → t.xferBytes = 0 ∧ t.xferFrags = 0) ∧
    ((t.xferBytes = s.xferBytes ∧ t.xferFrags = s.xferFrags) ∨ s.nextEvent = .reset ∨
      (s.phase = .idle ∧ ((s.nextEvent = cmdWrite 0x05 ∧ t.failed = false) ∨ s.nextEvent = cmdWrite 0x06)) ∨
      (s.phase = .txChunks ∧ s.nextEvent = .answer .ok) ∨
      (s.phase = .rxChunks ∧ s.nextEvent = .deliver ∧
        ∃ f q body, s.rxq = .frame f :: q ∧ decode .channel f = .ok (.chunkFrame body)))

/-- R27: the sticky bits stay 1 until a command is accepted (an idle block takes a CMD write) or reset, and are set
only while the block is busy, by a host write. -/
def Obligations.StickyBitsStayUntilAcceptance : Prop :=
  ∀ s t : State, step s = .next t →
    ((s.cmdOverrun = true ∧ t.cmdOverrun = false) ∨ (s.hostConflict = true ∧ t.hostConflict = false) →
      s.nextEvent = .reset ∨ (s.phase = .idle ∧ ∃ w, s.nextEvent = cmdWrite w)) ∧
    (s.cmdOverrun = false ∧ t.cmdOverrun = true → s.phase ≠ .idle ∧ ∃ w, s.nextEvent = cmdWrite w) ∧
    (s.hostConflict = false ∧ t.hostConflict = true →
      s.phase ≠ .idle ∧ ∃ sp w a v, s.nextEvent = .host (.write sp w a v) ∧ s.nextEvent ≠ cmdWrite v)

/-- R37, R19: no step changes the parameters the CFG_* registers read; nor the model's power-up index. -/
def Obligations.ParametersNeverChange : Prop :=
  ∀ s t : State, step s = .next t → t.cfg = s.cfg ∧ t.powerUp = s.powerUp

/-- R80: a transfer the Channel is silent to goes on waiting: only an answer (SEND), a delivery (RECEIVE), an ABORT or
reset changes its phase, its counters, what it received or what was emitted. -/
def Obligations.SilentChannelLeavesTheTransferWaiting : Prop :=
  ∀ s t : State, Transferring s → step s = .next t →
    s.nextEvent ≠ .reset → s.nextEvent ≠ cmdWrite 0x07 →
    ((s.phase = .rxMeta ∨ s.phase = .rxChunks) → s.nextEvent ≠ .deliver) →
    (¬ (s.phase = .rxMeta ∨ s.phase = .rxChunks) → ∀ r, s.nextEvent ≠ .answer r) →
    t.phase = s.phase ∧ t.xferBytes = s.xferBytes ∧ t.xferFrags = s.xferFrags ∧ t.rxDeclLen = s.rxDeclLen ∧
      t.txN = s.txN ∧ t.c = s.c ∧ t.pay = s.pay ∧ t.rxq = s.rxq ∧ t.emitted = s.emitted

/-- R79, R104: a step of an agent that is not enabled changes nothing: the Engine outside EXEC, an answer where no frame
is offered, a delivery where the block is not receiving (the frame waits in the Channel) or nothing has arrived. -/
def Obligations.DisabledStepsChangeNothing : Prop :=
  (∀ (s : State) (rest : List Event), s.phase ≠ .exec → s.events = .engine :: rest →
    step s = .next { s with events := rest, turn := .engine }) ∧
  (∀ (s : State), s.phase ≠ .exec → s.events = [] → step s = .next { s with turn := .engine }) ∧
  (∀ (s : State) (r : Answer) (rest : List Event),
    s.phase ≠ .txMeta → s.phase ≠ .txChunks → s.phase ≠ .txEnd → s.events = .answer r :: rest →
    step s = .next { s with events := rest, turn := .answer r }) ∧
  (∀ (s : State) (rest : List Event), s.phase ≠ .rxMeta → s.phase ≠ .rxChunks → s.events = .deliver :: rest →
    step s = .next { s with events := rest, turn := .deliver }) ∧
  (∀ (s : State) (rest : List Event), s.rxq = [] → s.events = .deliver :: rest →
    step s = .next { s with events := rest, turn := .deliver })

/-- R78, R81, R120: from a good state the EXEC step ends the command: PHASE is IDLE and DONE is 1, and ERR holds a code
exactly when FAILED is 1. -/
def Obligations.ExecStepEndsTheCommand : Prop :=
  ∀ s : State, s.Inv → s.phase = .exec → s.nextEvent = .engine →
    ∃ t, step s = .next t ∧ t.phase = .idle ∧ t.done = true ∧ (t.failed = true ↔ t.err ≠ .none)

/-- R120: a codec command that fails at its EXEC step leaves no partial write. -/
def Obligations.FailedExecStepWritesOnlyStatus : Prop :=
  ∀ s t : State, s.phase = .exec → s.nextEvent = .engine → step s = .next t → t.failed = true →
    t = failedWith { s with events := s.events.tail, turn := .engine } t.err

/-! ## Dispatch -/

/-- R75: acceptance, case by case. That a SEND which fails there leaves the counters and TX_N as they
were is the model's reading of R94, R120 and D16 beside R35, R36, R40 (log 26). -/
def Obligations.IdleBlockAcceptsACommandWord : Prop :=
  ∀ (s : State) (w : Word) (rest : List Event), s.phase = .idle → HostNext s (.write .reg .w32 0x04 w) rest →
    (IllegalWord w → step s = .next (failedWith (cleared (hostTurn s rest)) .badCommand)) ∧
    (w = 0x01 ∨ w = 0x04 → step s = .next
      { emptied (cleared (hostTurn s rest)) with pendOp := w.setWidth 8, phase := .exec }) ∧
    (w = 0x02 ∨ w = 0x03 → step s = .next
      { cleared (hostTurn s rest) with pendOp := w.setWidth 8, phase := .exec }) ∧
    (w = 0x05 →
      (s.cpres = false → step s = .next (failedWith (cleared (hostTurn s rest)) .noContainer)) ∧
      (s.cpres = true → s.cfg.payBytes < s.c.dataSize.toNat →
        step s = .next (failedWith (cleared (hostTurn s rest)) .capacity)) ∧
      (s.cpres = true → s.c.dataSize.toNat ≤ s.cfg.payBytes →
        step s = .next { uncounted (cleared (hostTurn s rest)) with txN := s.c.dataSize, phase := .txMeta })) ∧
    (w = 0x06 → step s = .next { uncounted (emptied (cleared (hostTurn s rest))) with
      rxDeclLen := 0, phase := .rxMeta }) ∧
    (w = 0x07 → step s = .next (succeeded (cleared (hostTurn s rest))))

/-- R76: a busy block drops a CMD write and sets CMD_OVERRUN, and nothing else, except that ABORT ends a transfer. -/
def Obligations.BusyBlockDropsACommandWord : Prop :=
  ∀ (s : State) (w : Word) (rest : List Event), s.phase ≠ .idle → HostNext s (.write .reg .w32 0x04 w) rest →
    (¬ (w = 0x07 ∧ Transferring s) → step s = .next { hostTurn s rest with cmdOverrun := true }) ∧
    (w = 0x07 → Transferring s → ∃ t, step s = .next t ∧ t.phase = .idle ∧ t.cmdOverrun = s.cmdOverrun)

/-- R82: the response to an illegal word; what was sticky is cleared, and nothing else changes. -/
def Obligations.IllegalWordIsABadCommand : Prop :=
  ∀ (s : State) (w : Word) (rest : List Event), s.phase = .idle → HostNext s (.write .reg .w32 0x04 w) rest →
    IllegalWord w →
    step s = .next { s with
      events := rest, turn := .host, phase := .idle, done := true, failed := true, err := .badCommand,
      sizeMismatch := false, cmdOverrun := false, hostConflict := false }

/-- R83: ABORT, case by case. Nothing but PHASE, DONE, FAILED, ERR and the close event changes when it ends a transfer;
an idle ABORT clears status; in EXEC it is dropped. -/
def Obligations.AbortEndsATransferOrClearsStatus : Prop :=
  ∀ s : State, s.turn = .host →
    ((s.phase = .txMeta ∨ s.phase = .txChunks ∨ s.phase = .txEnd) →
      exec .abort s = .next (failedWith { s with emitted := s.emitted ++ [.txClose] } .protoTransportFailure)) ∧
    ((s.phase = .rxMeta ∨ s.phase = .rxChunks) →
      exec .abort s = .next (failedWith { s with emitted := s.emitted ++ [.rxClose] } .protoTransportFailure)) ∧
    (s.phase = .idle → exec .abort s = .next (succeeded (cleared s))) ∧
    (s.phase = .exec → exec .abort s = .next { s with cmdOverrun := true })

/-! ## Codec -/

/-- R84: DECODE, its acceptance and its EXEC step, in the order of its checks. On success every C_* register holds the
field at its offset of the image in BUF, and PAY[0..N) its payload; nothing else changes. -/
def Obligations.DecodeParsesTheImage : Prop :=
  (∀ s : State, PresentedIdle s →
    exec .decode s = .next { emptied (cleared s) with pendOp := 0x01, phase := .exec }) ∧
  ∀ s : State, AtExecStep 0x01 s →
    let L := s.bufLen.toNat
    let N := (le32 (s.readBuf 40 4) 0).toNat
    (s.cfg.bufBytes < L → exec .decode s = .next (failedWith s .capacity)) ∧
    (L ≤ s.cfg.bufBytes → L < 44 → exec .decode s = .next (failedWith s .formatTruncated)) ∧
    (L ≤ s.cfg.bufBytes → 44 ≤ L → L - 44 < N → exec .decode s = .next (failedWith s .formatTruncated)) ∧
    (L ≤ s.cfg.bufBytes → 44 ≤ L → N ≤ L - 44 → s.cfg.payBytes < N →
      exec .decode s = .next (failedWith s .capacity)) ∧
    (L ≤ s.cfg.bufBytes → 44 ≤ L → N ≤ L - 44 → N ≤ s.cfg.payBytes →
      ∃ t, exec .decode s = .next t ∧
        t = { succeeded s with c := t.c, pay := t.pay, cpres := true } ∧
        t.c = { riffId := le32 (s.readBuf 0 4) 0, totalSize := le32 (s.readBuf 4 4) 0,
                waveId := le32 (s.readBuf 8 4) 0, fmtId := le32 (s.readBuf 12 4) 0,
                fmtSize := le32 (s.readBuf 16 4) 0, fmtTag := le16 (s.readBuf 20 2) 0,
                channels := le16 (s.readBuf 22 2) 0, sampleRate := le32 (s.readBuf 24 4) 0,
                byteRate := le32 (s.readBuf 28 4) 0, blockAlign := le16 (s.readBuf 32 2) 0,
                bits := le16 (s.readBuf 34 2) 0, dataId := le32 (s.readBuf 36 4) 0,
                dataSize := le32 (s.readBuf 40 4) 0 } ∧
        (∀ a, a < N → t.payByte a = s.bufByte (44 + a)) ∧
        (∀ a, N ≤ a → t.payByte a = s.payByte a) ∧
        (∀ a, t.bufByte a = s.bufByte a))

/-- R93: every DECODE with BUF_LEN < 44 (and BUF_LEN ≤ BUF_BYTES) fails with FORMAT_TRUNCATED, from its CMD write to its
EXEC step. -/
def Obligations.ShortImagesAreTruncated : Prop :=
  ∀ (s : State) (rest : List Event), s.phase = .idle → s.events = cmdWrite 0x01 :: .engine :: rest →
    s.bufLen.toNat < 44 → s.bufLen.toNat ≤ s.cfg.bufBytes →
    ∃ t, Sys2Proof.core.run 2 s = .next t ∧ t.failed = true ∧ t.done = true ∧ t.err = .formatTruncated ∧
      t.phase = .idle ∧ t.cpres = false ∧ t.c = s.c ∧ t.pay = s.pay ∧ t.buf = s.buf

/-- R85: VALIDATE, its acceptance and its EXEC step: the seven checks on exact naturals (R86), bit by bit (R29), VALID
their conjunction, and nothing else but the completion. -/
def Obligations.ValidateEvaluatesTheSevenChecks : Prop :=
  (∀ s : State, PresentedIdle s →
    exec .validate s = .next { cleared s with pendOp := 0x02, phase := .exec }) ∧
  ∀ s : State, AtExecStep 0x02 s →
    (s.cpres = false → exec .validate s = .next (failedWith s .noContainer)) ∧
    (s.cpres = true →
      ∃ t, exec .validate s = .next t ∧
        t = { succeeded s with vcheck := t.vcheck, valid := t.valid, vdone := true } ∧
        (t.vcheck.getLsbD 0 = true ↔ s.c.riffId = 0x46464952) ∧
        (t.vcheck.getLsbD 1 = true ↔ s.c.waveId = 0x45564157) ∧
        (t.vcheck.getLsbD 2 = true ↔ s.c.fmtId = 0x20746D66) ∧
        (t.vcheck.getLsbD 3 = true ↔ s.c.dataId = 0x61746164) ∧
        (t.vcheck.getLsbD 4 = true ↔
          s.c.byteRate.toNat = s.c.sampleRate.toNat * s.c.channels.toNat * s.c.bits.toNat / 8) ∧
        (t.vcheck.getLsbD 5 = true ↔ s.c.blockAlign.toNat = s.c.channels.toNat * s.c.bits.toNat / 8) ∧
        (t.vcheck.getLsbD 6 = true ↔
          s.c.totalSize.toNat = 4 + (8 + s.c.fmtSize.toNat) + (8 + s.c.dataSize.toNat)) ∧
        (t.valid = true ↔ t.vcheck = 0x7F))

/-- R87, R85: VALIDATE's verdict depends neither on C_FMT_TAG, nor on the payload, nor on RX_DECL_LEN and XFER_BYTES
(90 C3); and a container with C_FMT_SIZE = 18 and C_TOTAL_SIZE = 38 + N passes the total-size check. -/
def Obligations.ValidateIgnoresTagPayloadAndCounts : Prop :=
  (∀ (s : State) (tag : Half) (pay : Memory) (decl cnt : Word), AtExecStep 0x02 s → s.cpres = true →
    ∃ t u, exec .validate s = .next t ∧
      exec .validate { s with c := { s.c with fmtTag := tag }, pay := pay, rxDeclLen := decl, xferBytes := cnt } =
        .next u ∧ u.vcheck = t.vcheck ∧ u.valid = t.valid) ∧
  (∀ s : State, AtExecStep 0x02 s → s.cpres = true → s.c.fmtSize = 18 →
    s.c.totalSize.toNat = 38 + s.c.dataSize.toNat →
    ∃ t, exec .validate s = .next t ∧ t.vcheck.getLsbD 6 = true)

/-- R88, R89: ENCODE, its acceptance and its EXEC step. On success BUF[0..44 + N) is the image of R65, BUF_LEN its
length, and nothing else changes: BUF from 44 + N upward, PAY, the C_* registers, CPRES and the validation status. -/
def Obligations.EncodeSerializesTheContainer : Prop :=
  (∀ s : State, PresentedIdle s →
    exec .encode s = .next { cleared s with pendOp := 0x03, phase := .exec }) ∧
  ∀ s : State, AtExecStep 0x03 s →
    let N := s.c.dataSize.toNat
    (s.cpres = false → exec .encode s = .next (failedWith s .noContainer)) ∧
    (s.cpres = true → s.cfg.payBytes < N → exec .encode s = .next (failedWith s .capacity)) ∧
    (s.cpres = true → N ≤ s.cfg.payBytes →
      ∃ t, exec .encode s = .next t ∧
        t = { succeeded s with buf := t.buf, bufLen := t.bufLen } ∧
        t.bufLen.toNat = 44 + N ∧
        t.readBuf 0 4 = bytes32 s.c.riffId ∧ t.readBuf 4 4 = bytes32 s.c.totalSize ∧
        t.readBuf 8 4 = bytes32 s.c.waveId ∧ t.readBuf 12 4 = bytes32 s.c.fmtId ∧
        t.readBuf 16 4 = bytes32 s.c.fmtSize ∧ t.readBuf 20 2 = bytes16 s.c.fmtTag ∧
        t.readBuf 22 2 = bytes16 s.c.channels ∧ t.readBuf 24 4 = bytes32 s.c.sampleRate ∧
        t.readBuf 28 4 = bytes32 s.c.byteRate ∧ t.readBuf 32 2 = bytes16 s.c.blockAlign ∧
        t.readBuf 34 2 = bytes16 s.c.bits ∧ t.readBuf 36 4 = bytes32 s.c.dataId ∧
        t.readBuf 40 4 = bytes32 s.c.dataSize ∧
        (∀ a, a < N → t.bufByte (44 + a) = s.payByte a) ∧
        (∀ a, 44 + N ≤ a → t.bufByte a = s.bufByte a) ∧
        (∀ a, t.payByte a = s.payByte a))

/-- R90, R91: CONSTRUCT, its acceptance and its EXEC step. -/
def Obligations.ConstructAssemblesTheContainer : Prop :=
  (∀ s : State, PresentedIdle s →
    exec .construct s = .next { emptied (cleared s) with pendOp := 0x04, phase := .exec }) ∧
  ∀ s : State, AtExecStep 0x04 s →
    (s.cfg.payBytes < s.c.dataSize.toNat → exec .construct s = .next (failedWith s .capacity)) ∧
    (s.c.dataSize.toNat ≤ s.cfg.payBytes →
      ∃ t, exec .construct s = .next t ∧
        t = { succeeded s with c := t.c, cpres := true } ∧
        t.c = { s.c with riffId := 0x46464952, waveId := 0x45564157, fmtId := 0x20746D66, fmtSize := 16, fmtTag := 1,
                         dataId := 0x61746164, totalSize := t.c.totalSize } ∧
        t.c.totalSize.toNat = 36 + s.c.dataSize.toNat ∧
        (∀ a, t.payByte a = s.payByte a) ∧ (∀ a, t.bufByte a = s.bufByte a))

/-- R91: after ConstructFields the checks b0, b1, b2, b3 and b6 hold; b4 and b5 hold only if the format's fields agree.
Here of a CONSTRUCT followed by a VALIDATE, over four steps. -/
def Obligations.ConstructedContainersPassFiveChecks : Prop :=
  ∀ (s : State) (rest : List Event), s.phase = .idle → s.c.dataSize.toNat ≤ s.cfg.payBytes →
    s.events = cmdWrite 0x04 :: .engine :: cmdWrite 0x02 :: .engine :: rest →
    ∃ t, Sys2Proof.core.run 4 s = .next t ∧ t.failed = false ∧ t.vdone = true ∧
      t.vcheck.getLsbD 0 = true ∧ t.vcheck.getLsbD 1 = true ∧ t.vcheck.getLsbD 2 = true ∧
      t.vcheck.getLsbD 3 = true ∧ t.vcheck.getLsbD 6 = true ∧
      (t.vcheck.getLsbD 4 = true ↔
        s.c.byteRate.toNat = s.c.sampleRate.toNat * s.c.channels.toNat * s.c.bits.toNat / 8) ∧
      (t.vcheck.getLsbD 5 = true ↔ s.c.blockAlign.toNat = s.c.channels.toNat * s.c.bits.toNat / 8)

/-- R92: the round trip. ENCODE followed by DECODE, with no host write between, completes both without error and gives
every C_* register and the payload back, valid or not; the validation status is cleared. Stated of the run in which the
two commands and their EXEC steps follow one another with no other event between; R92 also allows host reads there. -/
def Obligations.EncodeThenDecodeIsARoundTrip : Prop :=
  ∀ (s : State) (rest : List Event), s.phase = .idle → s.cpres = true → s.c.dataSize.toNat ≤ s.cfg.payBytes →
    s.events = cmdWrite 0x03 :: .engine :: cmdWrite 0x01 :: .engine :: rest →
    (∃ m, Sys2Proof.core.run 2 s = .next m ∧ m.phase = .idle ∧ m.done = true ∧ m.failed = false ∧ m.err = .none) ∧
    ∃ t, Sys2Proof.core.run 4 s = .next t ∧
      t.phase = .idle ∧ t.done = true ∧ t.failed = false ∧ t.err = .none ∧
      t.c = s.c ∧ (∀ a, a < s.c.dataSize.toNat → t.payByte a = s.payByte a) ∧
      t.cpres = true ∧ t.vdone = false ∧ t.valid = false ∧ t.vcheck = 0

/-! ## SEND -/

/-- R94: the acceptance of SEND. That a SEND which fails there leaves the counters and TX_N as they were is the
model's reading of R94, R120 and D16 beside R35, R36, R40 (log 26). -/
def Obligations.SendStartsWithThePresentContainer : Prop :=
  ∀ s : State, PresentedIdle s →
    (s.cpres = false → exec .send s = .next (failedWith (cleared s) .noContainer)) ∧
    (s.cpres = true → s.cfg.payBytes < s.c.dataSize.toNat →
      exec .send s = .next (failedWith (cleared s) .capacity)) ∧
    (s.cpres = true → s.c.dataSize.toNat ≤ s.cfg.payBytes →
      exec .send s = .next { uncounted (cleared s) with txN := s.c.dataSize, phase := .txMeta })

/-- R95, R96: the step in TX_META, its frame answered OK. -/
def Obligations.SendOffersMetaFirst : Prop :=
  ∀ s : State, s.turn = .answer .ok → s.phase = .txMeta →
    (metaBytes s.c s.txN).length = 22 ∧
    exec .send s = .next { s with
      emitted := s.emitted ++ [.frame (metaBytes s.c s.txN) .ok],
      phase := if s.txN = 0 then .txEnd else .txChunks }

/-- R97: the step in TX_CHUNKS, its frame answered OK. The premise on XFER_BYTES is what R97 says holds in this phase
(`State.Inv.txChunks_left`). -/
def Obligations.SendOffersTheNextFragment : Prop :=
  ∀ s : State, s.turn = .answer .ok → s.phase = .txChunks → s.xferBytes.toNat < s.txN.toNat →
    let off := s.xferBytes.toNat
    let len := min s.cfg.fragMax (s.txN.toNat - off)
    1 ≤ len ∧ len ≤ s.cfg.fragMax ∧
    ∃ t, exec .send s = .next t ∧
      t = { s with
        emitted := s.emitted ++ [.frame (chunkBytes (s.readPay off len)) .ok],
        xferBytes := t.xferBytes, xferFrags := t.xferFrags,
        phase := if off + len = s.txN.toNat then .txEnd else .txChunks } ∧
      t.xferBytes.toNat = off + len ∧
      t.xferFrags.toNat = min (s.xferFrags.toNat + 1) (2 ^ 32 - 1)

/-- R98: the step in TX_END, its frame answered OK. -/
def Obligations.SendEndsWithTheEndFrame : Prop :=
  ∀ s : State, s.turn = .answer .ok → s.phase = .txEnd →
    exec .send s = .next (succeeded { s with emitted := s.emitted ++ [.frame endBytes .ok] })

/-- R99: a FAIL answer to any offered frame ends SEND at once; nothing else changes, and no close is emitted. -/
def Obligations.SendStopsAtATransmitFailure : Prop :=
  ∀ s : State, s.turn = .answer .fail → (s.phase = .txMeta ∨ s.phase = .txChunks ∨ s.phase = .txEnd) →
    exec .send s = .next (failedWith
      { s with emitted := s.emitted ++ [.frame (offeredBytes s) .fail] } .protoTransportFailure)

/-- R100, R101: a SEND answered OK throughout emits META, then ceil(N / FRAG_MAX) CHUNK frames in offset order, then
END, and the bodies joined are PAY[0..N). The container is unchanged. Stated of the run in which the answers follow one
another with no other event between. -/
def Obligations.SendEmitsTheWholeSequence : Prop :=
  ∀ (s : State) (rest : List Event), s.phase = .idle → s.cpres = true → s.c.dataSize.toNat ≤ s.cfg.payBytes →
    s.events = cmdWrite 0x05 :: (List.replicate (fragCount s + 2) (.answer .ok) ++ rest) →
    ((List.range (fragCount s)).map (fragment s)).flatten = s.readPay 0 s.c.dataSize.toNat ∧
    (∀ j, j < fragCount s → 1 ≤ (fragment s j).length ∧ (fragment s j).length ≤ s.cfg.fragMax ∧
      (j + 1 < fragCount s → (fragment s j).length = s.cfg.fragMax)) ∧
    ∃ t, Sys2Proof.core.run (fragCount s + 3) s = .next t ∧
      t = { succeeded (cleared s) with
        emitted := s.emitted ++ (transmitSequence s).map (fun f => .frame f .ok),
        events := rest, turn := .answer .ok,
        txN := s.c.dataSize, xferBytes := s.c.dataSize, xferFrags := t.xferFrags } ∧
      t.xferFrags.toNat = fragCount s

/-! ## RECEIVE -/

/-- R103: the acceptance of RECEIVE. -/
def Obligations.ReceiveStartsEmpty : Prop :=
  ∀ s : State, PresentedIdle s →
    exec .receive s = .next { uncounted (emptied (cleared s)) with rxDeclLen := 0, phase := .rxMeta }

/-- R105: META in RX_META. -/
def Obligations.MetaStoresTheMetadata : Prop :=
  ∀ (s : State) (ch : Half) (sr br : Word) (ba bps : Half) (len : Word), s.phase = .rxMeta →
    (len.toNat ≤ s.cfg.payBytes →
      exec (.metaFrame ch sr br ba bps len) s = .next { s with
        rx := { ch := ch, sr := sr, br := br, ba := ba, bps := bps }, rxDeclLen := len, phase := .rxChunks }) ∧
    (s.cfg.payBytes < len.toNat →
      exec (.metaFrame ch sr br ba bps len) s = .next (failedWith { s with
        rx := { ch := ch, sr := sr, br := br, ba := ba, bps := bps }, rxDeclLen := len,
        emitted := s.emitted ++ [.rxClose] } .capacity))

/-- R106: CHUNK or END in RX_META. -/
def Obligations.FirstFrameMustBeMeta : Prop :=
  ∀ (s : State) (body : List Byte), s.phase = .rxMeta →
    exec (.chunkFrame body) s =
      .next (failedWith { s with emitted := s.emitted ++ [.rxClose] } .protoNoMetadata) ∧
    exec .endFrame s = .next (failedWith { s with emitted := s.emitted ++ [.rxClose] } .protoNoMetadata)

/-- R108: a second META. -/
def Obligations.SecondMetaIsMalformed : Prop :=
  ∀ (s : State) (ch : Half) (sr br : Word) (ba bps : Half) (len : Word), s.phase = .rxChunks →
    exec (.metaFrame ch sr br ba bps len) s =
      .next (failedWith { s with emitted := s.emitted ++ [.rxClose] } .protoMalformed)

/-- R107, R111: CHUNK in RX_CHUNKS. Byte i of the body lands at PAY[XFER_BYTES + i] where that is below RX_DECL_LEN;
every other byte of PAY is unchanged; all the bytes count. -/
def Obligations.ChunkLandsAtTheNextFreeOffset : Prop :=
  ∀ (s : State) (body : List Byte), s.phase = .rxChunks →
    let base := s.xferBytes.toNat
    ∃ t, exec (.chunkFrame body) s = .next t ∧
      t = { s with pay := t.pay, xferBytes := t.xferBytes, xferFrags := t.xferFrags } ∧
      (∀ i, i < body.length → base + i < s.rxDeclLen.toNat → t.payByte (base + i) = byteAt body i) ∧
      (∀ a, ¬ (base ≤ a ∧ a < base + body.length ∧ a < s.rxDeclLen.toNat) → t.payByte a = s.payByte a) ∧
      (∀ a, t.bufByte a = s.bufByte a) ∧
      t.xferBytes.toNat = min (base + body.length) (2 ^ 32 - 1) ∧
      t.xferFrags.toNat = min (s.xferFrags.toNat + 1) (2 ^ 32 - 1)

/-- R109: END in RX_CHUNKS. The premise RX_DECL_LEN ≤ PAY_BYTES is R105's, and holds in this phase
(`State.Inv.rxChunks_fits`). -/
def Obligations.EndBuildsTheContainer : Prop :=
  ∀ s : State, s.phase = .rxChunks → s.rxDeclLen.toNat ≤ s.cfg.payBytes →
    ∃ t, exec .endFrame s = .next t ∧
      t = { succeeded s with c := t.c, cpres := true, sizeMismatch := t.sizeMismatch } ∧
      (t.sizeMismatch = true ↔ s.xferBytes ≠ s.rxDeclLen) ∧
      t.c = { riffId := 0x46464952, totalSize := t.c.totalSize, waveId := 0x45564157, fmtId := 0x20746D66,
              fmtSize := 16, fmtTag := 1, channels := s.rx.ch, sampleRate := s.rx.sr, byteRate := s.rx.br,
              blockAlign := s.rx.ba, bits := s.rx.bps, dataId := 0x61746164, dataSize := s.rxDeclLen } ∧
      t.c.totalSize.toNat = 36 + s.rxDeclLen.toNat

/-- R113, R115: LINK_ERROR in either receive phase; it is consumed and no RX_CLOSE is emitted. -/
def Obligations.LinkErrorFailsTheReception : Prop :=
  ∀ (s : State) (q : List RxEvent) (rest : List Event), s.phase = .rxMeta ∨ s.phase = .rxChunks →
    s.events = .deliver :: rest → s.rxq = .linkError :: q →
    step s = .next (failedWith { s with events := rest, turn := .deliver, rxq := q } .protoTransportFailure)

/-- R117: LINK_ERROR after META and before any CHUNK ends a RECEIVE with FAILED = 1, ERR = PROTO_TRANSPORT_FAILURE and
CPRES = 0. -/
def Obligations.LinkErrorAfterMetaGivesNoContainer : Prop :=
  ∀ (s : State) (f : List Byte) (q : List RxEvent) (rest : List Event)
    (ch : Half) (sr br : Word) (ba bps : Half) (len : Word),
    s.phase = .idle → s.events = cmdWrite 0x06 :: .deliver :: .deliver :: rest → s.rxq = .frame f :: .linkError :: q →
    decode .channel f = .ok (.metaFrame ch sr br ba bps len) → len.toNat ≤ s.cfg.payBytes →
    ∃ t, Sys2Proof.core.run 3 s = .next t ∧ t.failed = true ∧ t.err = .protoTransportFailure ∧ t.cpres = false ∧
      t.phase = .idle ∧ t.done = true ∧ t.rxDeclLen = len ∧ t.c = s.c ∧ t.pay = s.pay ∧ t.emitted = s.emitted ∧
      t.rxq = q

/-- R116: reassembly. Instance B receives, unchanged and in order, the frames R101 says instance A sends:
`transmitSequence`, which `Obligations.SendEmitsTheWholeSequence` ties to a run of SEND. Stated of the run in which the
deliveries follow one another with no other event between. -/
def Obligations.ReceiveReassemblesWhatSendSent : Prop :=
  ∀ (a b : State) (q : List RxEvent) (rest : List Event),
    a.cpres = true → a.c.dataSize.toNat ≤ a.cfg.payBytes → a.c.dataSize.toNat ≤ b.cfg.payBytes →
    b.phase = .idle → b.rxq = (transmitSequence a).map .frame ++ q →
    b.events = cmdWrite 0x06 :: (List.replicate (fragCount a + 2) .deliver ++ rest) →
    ∃ t, Sys2Proof.core.run (fragCount a + 3) b = .next t ∧
      t.phase = .idle ∧ t.done = true ∧ t.failed = false ∧ t.sizeMismatch = false ∧ t.cpres = true ∧ t.rxq = q ∧
      (∀ i, i < a.c.dataSize.toNat → t.payByte i = a.payByte i) ∧
      (∀ i, a.c.dataSize.toNat ≤ i → t.payByte i = b.payByte i) ∧
      t.c = { a.c with riffId := 0x46464952, waveId := 0x45564157, fmtId := 0x20746D66, fmtSize := 16, fmtTag := 1,
                       dataId := 0x61746164, totalSize := t.c.totalSize } ∧
      t.c.totalSize.toNat = 36 + a.c.dataSize.toNat ∧
      (a.c.isValid = true → t.c.isValid = true) ∧
      (a.c.isValid = true → a.c.fmtSize = 16 → a.c.fmtTag = 1 → t.c = a.c)

/-! ## The Host's window -/

/-- R18 to R38: what each register reads, at its offset; reserved offsets read 0. ERR reads the code R118 gives each
error. -/
def Obligations.RegistersReadAtTheirOffsets : Prop :=
  ∀ s : State,
    Reads s 0x00 0x43574154 ∧ Reads s 0x04 0 ∧ Reads s 0x08 s.statusWord ∧
    Reads s 0x0C (match s.err with
      | .none => 0x00
      | .formatTruncated => 0x01
      | .protoNoMetadata => 0x02
      | .protoTransportFailure => 0x03
      | .protoMalformed => 0x04
      | .capacity => 0x05
      | .noContainer => 0x06
      | .badCommand => 0x07) ∧
    Reads s 0x10 (s.vcheck.setWidth 32) ∧ Reads s 0x14 s.bufLen ∧
    Reads s 0x18 s.c.riffId ∧ Reads s 0x1C s.c.totalSize ∧ Reads s 0x20 s.c.waveId ∧ Reads s 0x24 s.c.fmtId ∧
    Reads s 0x28 s.c.fmtSize ∧ Reads s 0x2C (s.c.fmtTag.setWidth 32) ∧ Reads s 0x30 (s.c.channels.setWidth 32) ∧
    Reads s 0x34 s.c.sampleRate ∧ Reads s 0x38 s.c.byteRate ∧ Reads s 0x3C (s.c.blockAlign.setWidth 32) ∧
    Reads s 0x40 (s.c.bits.setWidth 32) ∧ Reads s 0x44 s.c.dataId ∧ Reads s 0x48 s.c.dataSize ∧
    Reads s 0x4C s.rxDeclLen ∧ Reads s 0x50 s.xferBytes ∧ Reads s 0x54 s.xferFrags ∧
    Reads s 0x58 (BitVec.ofNat 32 s.cfg.fragMax) ∧ Reads s 0x5C (BitVec.ofNat 32 s.cfg.payBytes) ∧
    Reads s 0x60 (BitVec.ofNat 32 s.cfg.bufBytes) ∧
    (∀ off, 0x64 ≤ off → off < 0x100 → off % 4 = 0 → Reads s off 0)

/-- R21, R22, R23: the fields of STATUS, bit by bit; the reserved bits read 0. -/
def Obligations.StatusFieldsAreAtTheirBits : Prop :=
  ∀ s : State,
    (s.statusWord.getLsbD 0 = true ↔ s.phase ≠ .idle) ∧
    (s.statusWord.toNat / 2 % 8 = match s.phase with
      | .idle => 0 | .exec => 1 | .rxMeta => 2 | .rxChunks => 3 | .txMeta => 4 | .txChunks => 5 | .txEnd => 6) ∧
    s.statusWord.getLsbD 4 = s.done ∧ s.statusWord.getLsbD 5 = s.failed ∧ s.statusWord.getLsbD 6 = s.cpres ∧
    s.statusWord.getLsbD 7 = s.vdone ∧ s.statusWord.getLsbD 8 = s.valid ∧
    s.statusWord.getLsbD 9 = s.sizeMismatch ∧ s.statusWord.getLsbD 10 = s.cmdOverrun ∧
    s.statusWord.getLsbD 11 = s.hostConflict ∧ s.statusWord.toNat < 2 ^ 12

/-- R51: a host read returns data and changes nothing of the block, busy or not. -/
def Obligations.HostReadsHaveNoSideEffect : Prop :=
  ∀ (s : State) (sp : Space) (w : Width) (a : Nat) (rest : List Event), HostNext s (.read sp w a) rest →
    (Access.read sp w a).Legal s.cfg →
    ∃ v, step s = .next { hostTurn s rest with hostData := some v }

/-- R46, R48: a host read of BUF or PAY returns the little-endian value of the bytes at its address, zero-extended. -/
def Obligations.MemoryReadsAreLittleEndian : Prop :=
  ∀ (s : State) (w : Width) (a : Nat) (rest : List Event),
    (HostNext s (.read .buf w a) rest → (Access.read .buf w a).Legal s.cfg →
      ∃ t v, step s = .next t ∧ t.hostData = some v ∧
        (w = .w8 → v.toNat = (s.bufByte a).toNat) ∧
        (w = .w16 → v.toNat = (s.bufByte a).toNat + 256 * (s.bufByte (a + 1)).toNat) ∧
        (w = .w32 → v.toNat = (s.bufByte a).toNat + 2 ^ 8 * (s.bufByte (a + 1)).toNat +
          2 ^ 16 * (s.bufByte (a + 2)).toNat + 2 ^ 24 * (s.bufByte (a + 3)).toNat)) ∧
    (HostNext s (.read .pay w a) rest → (Access.read .pay w a).Legal s.cfg →
      ∃ t v, step s = .next t ∧ t.hostData = some v ∧
        (w = .w8 → v.toNat = (s.payByte a).toNat) ∧
        (w = .w16 → v.toNat = (s.payByte a).toNat + 256 * (s.payByte (a + 1)).toNat) ∧
        (w = .w32 → v.toNat = (s.payByte a).toNat + 2 ^ 8 * (s.payByte (a + 1)).toNat +
          2 ^ 16 * (s.payByte (a + 2)).toNat + 2 ^ 24 * (s.payByte (a + 3)).toNat))

/-- R48, R46: a host write of BUF or PAY while the block is idle stores the value's bytes, low byte first, at its
address, and changes nothing else. -/
def Obligations.IdleMemoryWritesStoreTheirBytes : Prop :=
  ∀ (s : State) (w : Width) (a : Nat) (v : Word) (rest : List Event), s.phase = .idle →
    (HostNext s (.write .buf w a v) rest → (Access.write .buf w a v).Legal s.cfg →
      ∃ t, step s = .next t ∧ t = { hostTurn s rest with buf := t.buf } ∧
        (∀ i, i < w.bytes → (t.bufByte (a + i)).toNat = v.toNat / 256 ^ i % 256) ∧
        (∀ b, b < a ∨ a + w.bytes ≤ b → t.bufByte b = s.bufByte b)) ∧
    (HostNext s (.write .pay w a v) rest → (Access.write .pay w a v).Legal s.cfg →
      ∃ t, step s = .next t ∧ t = { hostTurn s rest with pay := t.pay } ∧
        (∀ i, i < w.bytes → (t.payByte (a + i)).toNat = v.toNat / 256 ^ i % 256) ∧
        (∀ b, b < a ∨ a + w.bytes ≤ b → t.payByte b = s.payByte b))

/-- R50: while busy a write to BUF_LEN, a C_* register, BUF or PAY is dropped and only sets HOST_CONFLICT. -/
def Obligations.BusyWritesAreDropped : Prop :=
  ∀ (s : State) (sp : Space) (w : Width) (a : Nat) (v : Word) (rest : List Event),
    s.phase ≠ .idle → HostNext s (.write sp w a v) rest → (Access.write sp w a v).Legal s.cfg →
    (sp = .reg → a = 0x14 ∨ IsFieldOffset a) →
    step s = .next { hostTurn s rest with hostConflict := true }

/-- R38, R50: a write to a read-only register or a reserved offset is ignored, busy or not, and sets nothing. -/
def Obligations.ReadOnlyAndReservedWritesAreIgnored : Prop :=
  ∀ (s : State) (a : Nat) (v : Word) (rest : List Event),
    HostNext s (.write .reg .w32 a v) rest → a % 4 = 0 → a < 0x100 →
    a ≠ 0x04 → a ≠ 0x14 → ¬ IsFieldOffset a →
    step s = .next (hostTurn s rest)

/-- R32, R33: an idle host write to a C_* register stores the value, masked to the register's width, clears VDONE, VALID
and VCHECK, and changes nothing else: no other C_* register either. -/
def Obligations.FieldWritesStoreAndInvalidate : Prop :=
  ∀ (s : State) (a : Nat) (v : Word) (rest : List Event),
    s.phase = .idle → HostNext s (.write .reg .w32 a v) rest → IsFieldOffset a →
    ∃ t, step s = .next t ∧
      t = { hostTurn s rest with c := t.c, vdone := false, valid := false, vcheck := 0 } ∧
      (IsHalfOffset a → t.readRegAt a = v &&& 0xFFFF) ∧
      (¬ IsHalfOffset a → t.readRegAt a = v) ∧
      (∀ b, IsFieldOffset b → b ≠ a → t.readRegAt b = s.readRegAt b)

/-- R30: an idle host write to BUF_LEN stores any 32-bit value and changes nothing else. -/
def Obligations.BufLenTakesAnyValue : Prop :=
  ∀ (s : State) (v : Word) (rest : List Event), s.phase = .idle → HostNext s (.write .reg .w32 0x14 v) rest →
    step s = .next { hostTurn s rest with bufLen := v }

/-! ## Reset -/

/-- R131, R132: the reset event ends any command without an outcome, sets every register and hidden state to its reset
value, emits nothing, and leaves BUF, PAY, the parameters and the Channel as they were. -/
def Obligations.ResetRestoresEveryRegister : Prop :=
  ∀ (s : State) (rest : List Event), s.events = .reset :: rest →
    step s = .next { s with
      events := rest, turn := .reset, phase := .idle, done := false, failed := false, cpres := false, vdone := false,
      valid := false, sizeMismatch := false, cmdOverrun := false, hostConflict := false, err := .none, vcheck := 0,
      bufLen := 0,
      c := { riffId := 0, totalSize := 0, waveId := 0, fmtId := 0, fmtSize := 0, fmtTag := 0, channels := 0,
             sampleRate := 0, byteRate := 0, blockAlign := 0, bits := 0, dataId := 0, dataSize := 0 },
      rxDeclLen := 0, xferBytes := 0, xferFrags := 0, pendOp := 0,
      rx := { ch := 0, sr := 0, br := 0, ba := 0, bps := 0 }, txN := 0 }

/-- R132: what reset leaves, as the Host reads it after power-up with any parameters: ID and the CFG_* registers hold
their constants, every other register reads 0. -/
def Obligations.RegistersAfterPowerUp : Prop :=
  ∀ (cfg : Config) (p off : Nat), off % 4 = 0 → off < 0x100 →
    (off = 0x00 → (State.powerOn cfg p).readRegAt off = 0x43574154) ∧
    (off = 0x58 → ((State.powerOn cfg p).readRegAt off).toNat = cfg.fragMax) ∧
    (off = 0x5C → ((State.powerOn cfg p).readRegAt off).toNat = cfg.payBytes) ∧
    (off = 0x60 → ((State.powerOn cfg p).readRegAt off).toNat = cfg.bufBytes) ∧
    (off ≠ 0x00 → off ≠ 0x58 → off ≠ 0x5C → off ≠ 0x60 → (State.powerOn cfg p).readRegAt off = 0)
end

