-- ==== Sys2Proof/Laws/Bytes.lean ====
section
/-! SUPPORT. The byte-order laws: the little-endian readers and writers of 00_scope.md R13 undo each other. -/

namespace Sys2Proof

@[simp] theorem bytes16_length (v : Half) : (bytes16 v).length = 2 := rfl

@[simp] theorem bytes32_length (v : Word) : (bytes32 v).length = 4 := rfl

/-- Two bytes of a half word give it back. -/
theorem half_of_its_bytes (v : Half) :
    BitVec.ofNat 16 ((BitVec.ofNat 8 v.toNat).toNat + 256 * (BitVec.ofNat 8 (v.toNat / 256)).toNat) = v := by
  apply BitVec.eq_of_toNat_eq
  have := v.isLt
  simp only [BitVec.toNat_ofNat]
  omega

/-- Four bytes of a word give it back. -/
theorem word_of_its_bytes (v : Word) :
    BitVec.ofNat 32 ((BitVec.ofNat 8 v.toNat).toNat + 256 * (BitVec.ofNat 8 (v.toNat / 256)).toNat +
      65536 * (BitVec.ofNat 8 (v.toNat / 65536)).toNat +
      16777216 * (BitVec.ofNat 8 (v.toNat / 16777216)).toNat) = v := by
  apply BitVec.eq_of_toNat_eq
  have := v.isLt
  simp only [BitVec.toNat_ofNat]
  omega

/-- A byte of a string that begins with a known prefix of length `n`, from offset `n` on. -/
theorem byteAt_append_right (p s : List Byte) (i : Nat) : byteAt (p ++ s) (p.length + i) = byteAt s i := by
  simp [byteAt, List.getD, List.getElem?_append_right]

theorem byteAt_append_left (p s : List Byte) (i : Nat) (h : i < p.length) : byteAt (p ++ s) i = byteAt p i := by
  simp [byteAt, List.getD, List.getElem?_append_left h]

@[simp] theorem le16_bytes16 (v : Half) (s : List Byte) : le16 (bytes16 v ++ s) 0 = v :=
  half_of_its_bytes v

@[simp] theorem le32_bytes32 (v : Word) (s : List Byte) : le32 (bytes32 v ++ s) 0 = v :=
  word_of_its_bytes v

/-- The word two bytes make, as a number (R13). -/
theorem le16_toNat (s : List Byte) (o : Nat) :
    (le16 s o).toNat = (byteAt s o).toNat + 256 * (byteAt s (o + 1)).toNat := by
  have h0 := (byteAt s o).isLt
  have h1 := (byteAt s (o + 1)).isLt
  simp only [le16, BitVec.toNat_ofNat]
  omega

/-- The word four bytes make, as a number (R13). -/
theorem le32_toNat (s : List Byte) (o : Nat) :
    (le32 s o).toNat = (byteAt s o).toNat + 256 * (byteAt s (o + 1)).toNat +
      65536 * (byteAt s (o + 2)).toNat + 16777216 * (byteAt s (o + 3)).toNat := by
  have h0 := (byteAt s o).isLt
  have h1 := (byteAt s (o + 1)).isLt
  have h2 := (byteAt s (o + 2)).isLt
  have h3 := (byteAt s (o + 3)).isLt
  simp only [le32, BitVec.toNat_ofNat]
  omega

/-- The bytes of the half word two bytes make are those bytes. -/
theorem bytes16_le16 (s : List Byte) (o : Nat) : bytes16 (le16 s o) = [byteAt s o, byteAt s (o + 1)] := by
  have h0 := (byteAt s o).isLt
  have h1 := (byteAt s (o + 1)).isLt
  simp only [bytes16, le16_toNat, List.cons.injEq, and_true]
  refine ⟨?_, ?_⟩ <;> apply BitVec.eq_of_toNat_eq <;> simp only [BitVec.toNat_ofNat] <;> omega

/-- The bytes of the word four bytes make are those bytes. -/
theorem bytes32_le32 (s : List Byte) (o : Nat) :
    bytes32 (le32 s o) = [byteAt s o, byteAt s (o + 1), byteAt s (o + 2), byteAt s (o + 3)] := by
  have h0 := (byteAt s o).isLt
  have h1 := (byteAt s (o + 1)).isLt
  have h2 := (byteAt s (o + 2)).isLt
  have h3 := (byteAt s (o + 3)).isLt
  simp only [bytes32, le32_toNat, List.cons.injEq, and_true]
  refine ⟨?_, ?_, ?_, ?_⟩ <;> apply BitVec.eq_of_toNat_eq <;> simp only [BitVec.toNat_ofNat] <;> omega

@[simp] theorem frameHeader_length (type : Byte) (len : Nat) : (frameHeader type len).length = 4 := rfl

end Sys2Proof
end

