-- ==== Sys2Proof/Laws/State.lean ====
section
/-! SUPPORT. What each named update of the state leaves in each field: one lemma per field per update, so that no later
proof unfolds a record update. -/

namespace Sys2Proof.Machine.State

variable (s : State)

/-! `fail` -/

@[simp] theorem fail_cfg (code : ErrCode) : (s.fail code).cfg = s.cfg := rfl
@[simp] theorem fail_phase (code : ErrCode) : (s.fail code).phase = .idle := rfl
@[simp] theorem fail_done (code : ErrCode) : (s.fail code).done = true := rfl
@[simp] theorem fail_failed (code : ErrCode) : (s.fail code).failed = true := rfl
@[simp] theorem fail_cpres (code : ErrCode) : (s.fail code).cpres = s.cpres := rfl
@[simp] theorem fail_vdone (code : ErrCode) : (s.fail code).vdone = s.vdone := rfl
@[simp] theorem fail_valid (code : ErrCode) : (s.fail code).valid = s.valid := rfl
@[simp] theorem fail_sizeMismatch (code : ErrCode) : (s.fail code).sizeMismatch = s.sizeMismatch := rfl
@[simp] theorem fail_cmdOverrun (code : ErrCode) : (s.fail code).cmdOverrun = s.cmdOverrun := rfl
@[simp] theorem fail_hostConflict (code : ErrCode) : (s.fail code).hostConflict = s.hostConflict := rfl
@[simp] theorem fail_err (code : ErrCode) : (s.fail code).err = code := rfl
@[simp] theorem fail_vcheck (code : ErrCode) : (s.fail code).vcheck = s.vcheck := rfl
@[simp] theorem fail_bufLen (code : ErrCode) : (s.fail code).bufLen = s.bufLen := rfl
@[simp] theorem fail_c (code : ErrCode) : (s.fail code).c = s.c := rfl
@[simp] theorem fail_rxDeclLen (code : ErrCode) : (s.fail code).rxDeclLen = s.rxDeclLen := rfl
@[simp] theorem fail_xferBytes (code : ErrCode) : (s.fail code).xferBytes = s.xferBytes := rfl
@[simp] theorem fail_xferFrags (code : ErrCode) : (s.fail code).xferFrags = s.xferFrags := rfl
@[simp] theorem fail_pendOp (code : ErrCode) : (s.fail code).pendOp = s.pendOp := rfl
@[simp] theorem fail_rx (code : ErrCode) : (s.fail code).rx = s.rx := rfl
@[simp] theorem fail_txN (code : ErrCode) : (s.fail code).txN = s.txN := rfl
@[simp] theorem fail_buf (code : ErrCode) : (s.fail code).buf = s.buf := rfl
@[simp] theorem fail_pay (code : ErrCode) : (s.fail code).pay = s.pay := rfl
@[simp] theorem fail_powerUp (code : ErrCode) : (s.fail code).powerUp = s.powerUp := rfl
@[simp] theorem fail_turn (code : ErrCode) : (s.fail code).turn = s.turn := rfl
@[simp] theorem fail_events (code : ErrCode) : (s.fail code).events = s.events := rfl
@[simp] theorem fail_rxq (code : ErrCode) : (s.fail code).rxq = s.rxq := rfl
@[simp] theorem fail_emitted (code : ErrCode) : (s.fail code).emitted = s.emitted := rfl
@[simp] theorem fail_hostData (code : ErrCode) : (s.fail code).hostData = s.hostData := rfl

/-! `complete` -/

@[simp] theorem complete_cfg : (s.complete).cfg = s.cfg := rfl
@[simp] theorem complete_phase : (s.complete).phase = .idle := rfl
@[simp] theorem complete_done : (s.complete).done = true := rfl
@[simp] theorem complete_failed : (s.complete).failed = false := rfl
@[simp] theorem complete_cpres : (s.complete).cpres = s.cpres := rfl
@[simp] theorem complete_vdone : (s.complete).vdone = s.vdone := rfl
@[simp] theorem complete_valid : (s.complete).valid = s.valid := rfl
@[simp] theorem complete_sizeMismatch : (s.complete).sizeMismatch = s.sizeMismatch := rfl
@[simp] theorem complete_cmdOverrun : (s.complete).cmdOverrun = s.cmdOverrun := rfl
@[simp] theorem complete_hostConflict : (s.complete).hostConflict = s.hostConflict := rfl
@[simp] theorem complete_err : (s.complete).err = .none := rfl
@[simp] theorem complete_vcheck : (s.complete).vcheck = s.vcheck := rfl
@[simp] theorem complete_bufLen : (s.complete).bufLen = s.bufLen := rfl
@[simp] theorem complete_c : (s.complete).c = s.c := rfl
@[simp] theorem complete_rxDeclLen : (s.complete).rxDeclLen = s.rxDeclLen := rfl
@[simp] theorem complete_xferBytes : (s.complete).xferBytes = s.xferBytes := rfl
@[simp] theorem complete_xferFrags : (s.complete).xferFrags = s.xferFrags := rfl
@[simp] theorem complete_pendOp : (s.complete).pendOp = s.pendOp := rfl
@[simp] theorem complete_rx : (s.complete).rx = s.rx := rfl
@[simp] theorem complete_txN : (s.complete).txN = s.txN := rfl
@[simp] theorem complete_buf : (s.complete).buf = s.buf := rfl
@[simp] theorem complete_pay : (s.complete).pay = s.pay := rfl
@[simp] theorem complete_powerUp : (s.complete).powerUp = s.powerUp := rfl
@[simp] theorem complete_turn : (s.complete).turn = s.turn := rfl
@[simp] theorem complete_events : (s.complete).events = s.events := rfl
@[simp] theorem complete_rxq : (s.complete).rxq = s.rxq := rfl
@[simp] theorem complete_emitted : (s.complete).emitted = s.emitted := rfl
@[simp] theorem complete_hostData : (s.complete).hostData = s.hostData := rfl

/-! `accept` -/

@[simp] theorem accept_cfg : (s.accept).cfg = s.cfg := rfl
@[simp] theorem accept_phase : (s.accept).phase = s.phase := rfl
@[simp] theorem accept_done : (s.accept).done = false := rfl
@[simp] theorem accept_failed : (s.accept).failed = false := rfl
@[simp] theorem accept_cpres : (s.accept).cpres = s.cpres := rfl
@[simp] theorem accept_vdone : (s.accept).vdone = s.vdone := rfl
@[simp] theorem accept_valid : (s.accept).valid = s.valid := rfl
@[simp] theorem accept_sizeMismatch : (s.accept).sizeMismatch = false := rfl
@[simp] theorem accept_cmdOverrun : (s.accept).cmdOverrun = false := rfl
@[simp] theorem accept_hostConflict : (s.accept).hostConflict = false := rfl
@[simp] theorem accept_err : (s.accept).err = .none := rfl
@[simp] theorem accept_vcheck : (s.accept).vcheck = s.vcheck := rfl
@[simp] theorem accept_bufLen : (s.accept).bufLen = s.bufLen := rfl
@[simp] theorem accept_c : (s.accept).c = s.c := rfl
@[simp] theorem accept_rxDeclLen : (s.accept).rxDeclLen = s.rxDeclLen := rfl
@[simp] theorem accept_xferBytes : (s.accept).xferBytes = s.xferBytes := rfl
@[simp] theorem accept_xferFrags : (s.accept).xferFrags = s.xferFrags := rfl
@[simp] theorem accept_pendOp : (s.accept).pendOp = s.pendOp := rfl
@[simp] theorem accept_rx : (s.accept).rx = s.rx := rfl
@[simp] theorem accept_txN : (s.accept).txN = s.txN := rfl
@[simp] theorem accept_buf : (s.accept).buf = s.buf := rfl
@[simp] theorem accept_pay : (s.accept).pay = s.pay := rfl
@[simp] theorem accept_powerUp : (s.accept).powerUp = s.powerUp := rfl
@[simp] theorem accept_turn : (s.accept).turn = s.turn := rfl
@[simp] theorem accept_events : (s.accept).events = s.events := rfl
@[simp] theorem accept_rxq : (s.accept).rxq = s.rxq := rfl
@[simp] theorem accept_emitted : (s.accept).emitted = s.emitted := rfl
@[simp] theorem accept_hostData : (s.accept).hostData = s.hostData := rfl

/-! `flagOverrun` -/

@[simp] theorem flagOverrun_cfg : (s.flagOverrun).cfg = s.cfg := rfl
@[simp] theorem flagOverrun_phase : (s.flagOverrun).phase = s.phase := rfl
@[simp] theorem flagOverrun_done : (s.flagOverrun).done = s.done := rfl
@[simp] theorem flagOverrun_failed : (s.flagOverrun).failed = s.failed := rfl
@[simp] theorem flagOverrun_cpres : (s.flagOverrun).cpres = s.cpres := rfl
@[simp] theorem flagOverrun_vdone : (s.flagOverrun).vdone = s.vdone := rfl
@[simp] theorem flagOverrun_valid : (s.flagOverrun).valid = s.valid := rfl
@[simp] theorem flagOverrun_sizeMismatch : (s.flagOverrun).sizeMismatch = s.sizeMismatch := rfl
@[simp] theorem flagOverrun_cmdOverrun : (s.flagOverrun).cmdOverrun = true := rfl
@[simp] theorem flagOverrun_hostConflict : (s.flagOverrun).hostConflict = s.hostConflict := rfl
@[simp] theorem flagOverrun_err : (s.flagOverrun).err = s.err := rfl
@[simp] theorem flagOverrun_vcheck : (s.flagOverrun).vcheck = s.vcheck := rfl
@[simp] theorem flagOverrun_bufLen : (s.flagOverrun).bufLen = s.bufLen := rfl
@[simp] theorem flagOverrun_c : (s.flagOverrun).c = s.c := rfl
@[simp] theorem flagOverrun_rxDeclLen : (s.flagOverrun).rxDeclLen = s.rxDeclLen := rfl
@[simp] theorem flagOverrun_xferBytes : (s.flagOverrun).xferBytes = s.xferBytes := rfl
@[simp] theorem flagOverrun_xferFrags : (s.flagOverrun).xferFrags = s.xferFrags := rfl
@[simp] theorem flagOverrun_pendOp : (s.flagOverrun).pendOp = s.pendOp := rfl
@[simp] theorem flagOverrun_rx : (s.flagOverrun).rx = s.rx := rfl
@[simp] theorem flagOverrun_txN : (s.flagOverrun).txN = s.txN := rfl
@[simp] theorem flagOverrun_buf : (s.flagOverrun).buf = s.buf := rfl
@[simp] theorem flagOverrun_pay : (s.flagOverrun).pay = s.pay := rfl
@[simp] theorem flagOverrun_powerUp : (s.flagOverrun).powerUp = s.powerUp := rfl
@[simp] theorem flagOverrun_turn : (s.flagOverrun).turn = s.turn := rfl
@[simp] theorem flagOverrun_events : (s.flagOverrun).events = s.events := rfl
@[simp] theorem flagOverrun_rxq : (s.flagOverrun).rxq = s.rxq := rfl
@[simp] theorem flagOverrun_emitted : (s.flagOverrun).emitted = s.emitted := rfl
@[simp] theorem flagOverrun_hostData : (s.flagOverrun).hostData = s.hostData := rfl

/-! `flagConflict` -/

@[simp] theorem flagConflict_cfg : (s.flagConflict).cfg = s.cfg := rfl
@[simp] theorem flagConflict_phase : (s.flagConflict).phase = s.phase := rfl
@[simp] theorem flagConflict_done : (s.flagConflict).done = s.done := rfl
@[simp] theorem flagConflict_failed : (s.flagConflict).failed = s.failed := rfl
@[simp] theorem flagConflict_cpres : (s.flagConflict).cpres = s.cpres := rfl
@[simp] theorem flagConflict_vdone : (s.flagConflict).vdone = s.vdone := rfl
@[simp] theorem flagConflict_valid : (s.flagConflict).valid = s.valid := rfl
@[simp] theorem flagConflict_sizeMismatch : (s.flagConflict).sizeMismatch = s.sizeMismatch := rfl
@[simp] theorem flagConflict_cmdOverrun : (s.flagConflict).cmdOverrun = s.cmdOverrun := rfl
@[simp] theorem flagConflict_hostConflict : (s.flagConflict).hostConflict = true := rfl
@[simp] theorem flagConflict_err : (s.flagConflict).err = s.err := rfl
@[simp] theorem flagConflict_vcheck : (s.flagConflict).vcheck = s.vcheck := rfl
@[simp] theorem flagConflict_bufLen : (s.flagConflict).bufLen = s.bufLen := rfl
@[simp] theorem flagConflict_c : (s.flagConflict).c = s.c := rfl
@[simp] theorem flagConflict_rxDeclLen : (s.flagConflict).rxDeclLen = s.rxDeclLen := rfl
@[simp] theorem flagConflict_xferBytes : (s.flagConflict).xferBytes = s.xferBytes := rfl
@[simp] theorem flagConflict_xferFrags : (s.flagConflict).xferFrags = s.xferFrags := rfl
@[simp] theorem flagConflict_pendOp : (s.flagConflict).pendOp = s.pendOp := rfl
@[simp] theorem flagConflict_rx : (s.flagConflict).rx = s.rx := rfl
@[simp] theorem flagConflict_txN : (s.flagConflict).txN = s.txN := rfl
@[simp] theorem flagConflict_buf : (s.flagConflict).buf = s.buf := rfl
@[simp] theorem flagConflict_pay : (s.flagConflict).pay = s.pay := rfl
@[simp] theorem flagConflict_powerUp : (s.flagConflict).powerUp = s.powerUp := rfl
@[simp] theorem flagConflict_turn : (s.flagConflict).turn = s.turn := rfl
@[simp] theorem flagConflict_events : (s.flagConflict).events = s.events := rfl
@[simp] theorem flagConflict_rxq : (s.flagConflict).rxq = s.rxq := rfl
@[simp] theorem flagConflict_emitted : (s.flagConflict).emitted = s.emitted := rfl
@[simp] theorem flagConflict_hostData : (s.flagConflict).hostData = s.hostData := rfl

/-! `clearValidation` -/

@[simp] theorem clearValidation_cfg : (s.clearValidation).cfg = s.cfg := rfl
@[simp] theorem clearValidation_phase : (s.clearValidation).phase = s.phase := rfl
@[simp] theorem clearValidation_done : (s.clearValidation).done = s.done := rfl
@[simp] theorem clearValidation_failed : (s.clearValidation).failed = s.failed := rfl
@[simp] theorem clearValidation_cpres : (s.clearValidation).cpres = s.cpres := rfl
@[simp] theorem clearValidation_vdone : (s.clearValidation).vdone = false := rfl
@[simp] theorem clearValidation_valid : (s.clearValidation).valid = false := rfl
@[simp] theorem clearValidation_sizeMismatch : (s.clearValidation).sizeMismatch = s.sizeMismatch := rfl
@[simp] theorem clearValidation_cmdOverrun : (s.clearValidation).cmdOverrun = s.cmdOverrun := rfl
@[simp] theorem clearValidation_hostConflict : (s.clearValidation).hostConflict = s.hostConflict := rfl
@[simp] theorem clearValidation_err : (s.clearValidation).err = s.err := rfl
@[simp] theorem clearValidation_vcheck : (s.clearValidation).vcheck = 0 := rfl
@[simp] theorem clearValidation_bufLen : (s.clearValidation).bufLen = s.bufLen := rfl
@[simp] theorem clearValidation_c : (s.clearValidation).c = s.c := rfl
@[simp] theorem clearValidation_rxDeclLen : (s.clearValidation).rxDeclLen = s.rxDeclLen := rfl
@[simp] theorem clearValidation_xferBytes : (s.clearValidation).xferBytes = s.xferBytes := rfl
@[simp] theorem clearValidation_xferFrags : (s.clearValidation).xferFrags = s.xferFrags := rfl
@[simp] theorem clearValidation_pendOp : (s.clearValidation).pendOp = s.pendOp := rfl
@[simp] theorem clearValidation_rx : (s.clearValidation).rx = s.rx := rfl
@[simp] theorem clearValidation_txN : (s.clearValidation).txN = s.txN := rfl
@[simp] theorem clearValidation_buf : (s.clearValidation).buf = s.buf := rfl
@[simp] theorem clearValidation_pay : (s.clearValidation).pay = s.pay := rfl
@[simp] theorem clearValidation_powerUp : (s.clearValidation).powerUp = s.powerUp := rfl
@[simp] theorem clearValidation_turn : (s.clearValidation).turn = s.turn := rfl
@[simp] theorem clearValidation_events : (s.clearValidation).events = s.events := rfl
@[simp] theorem clearValidation_rxq : (s.clearValidation).rxq = s.rxq := rfl
@[simp] theorem clearValidation_emitted : (s.clearValidation).emitted = s.emitted := rfl
@[simp] theorem clearValidation_hostData : (s.clearValidation).hostData = s.hostData := rfl

/-! `discardContainer` -/

@[simp] theorem discardContainer_cfg : (s.discardContainer).cfg = s.cfg := rfl
@[simp] theorem discardContainer_phase : (s.discardContainer).phase = s.phase := rfl
@[simp] theorem discardContainer_done : (s.discardContainer).done = s.done := rfl
@[simp] theorem discardContainer_failed : (s.discardContainer).failed = s.failed := rfl
@[simp] theorem discardContainer_cpres : (s.discardContainer).cpres = false := rfl
@[simp] theorem discardContainer_vdone : (s.discardContainer).vdone = false := rfl
@[simp] theorem discardContainer_valid : (s.discardContainer).valid = false := rfl
@[simp] theorem discardContainer_sizeMismatch : (s.discardContainer).sizeMismatch = s.sizeMismatch := rfl
@[simp] theorem discardContainer_cmdOverrun : (s.discardContainer).cmdOverrun = s.cmdOverrun := rfl
@[simp] theorem discardContainer_hostConflict : (s.discardContainer).hostConflict = s.hostConflict := rfl
@[simp] theorem discardContainer_err : (s.discardContainer).err = s.err := rfl
@[simp] theorem discardContainer_vcheck : (s.discardContainer).vcheck = 0 := rfl
@[simp] theorem discardContainer_bufLen : (s.discardContainer).bufLen = s.bufLen := rfl
@[simp] theorem discardContainer_c : (s.discardContainer).c = s.c := rfl
@[simp] theorem discardContainer_rxDeclLen : (s.discardContainer).rxDeclLen = s.rxDeclLen := rfl
@[simp] theorem discardContainer_xferBytes : (s.discardContainer).xferBytes = s.xferBytes := rfl
@[simp] theorem discardContainer_xferFrags : (s.discardContainer).xferFrags = s.xferFrags := rfl
@[simp] theorem discardContainer_pendOp : (s.discardContainer).pendOp = s.pendOp := rfl
@[simp] theorem discardContainer_rx : (s.discardContainer).rx = s.rx := rfl
@[simp] theorem discardContainer_txN : (s.discardContainer).txN = s.txN := rfl
@[simp] theorem discardContainer_buf : (s.discardContainer).buf = s.buf := rfl
@[simp] theorem discardContainer_pay : (s.discardContainer).pay = s.pay := rfl
@[simp] theorem discardContainer_powerUp : (s.discardContainer).powerUp = s.powerUp := rfl
@[simp] theorem discardContainer_turn : (s.discardContainer).turn = s.turn := rfl
@[simp] theorem discardContainer_events : (s.discardContainer).events = s.events := rfl
@[simp] theorem discardContainer_rxq : (s.discardContainer).rxq = s.rxq := rfl
@[simp] theorem discardContainer_emitted : (s.discardContainer).emitted = s.emitted := rfl
@[simp] theorem discardContainer_hostData : (s.discardContainer).hostData = s.hostData := rfl

/-! `clearCounters` -/

@[simp] theorem clearCounters_cfg : (s.clearCounters).cfg = s.cfg := rfl
@[simp] theorem clearCounters_phase : (s.clearCounters).phase = s.phase := rfl
@[simp] theorem clearCounters_done : (s.clearCounters).done = s.done := rfl
@[simp] theorem clearCounters_failed : (s.clearCounters).failed = s.failed := rfl
@[simp] theorem clearCounters_cpres : (s.clearCounters).cpres = s.cpres := rfl
@[simp] theorem clearCounters_vdone : (s.clearCounters).vdone = s.vdone := rfl
@[simp] theorem clearCounters_valid : (s.clearCounters).valid = s.valid := rfl
@[simp] theorem clearCounters_sizeMismatch : (s.clearCounters).sizeMismatch = s.sizeMismatch := rfl
@[simp] theorem clearCounters_cmdOverrun : (s.clearCounters).cmdOverrun = s.cmdOverrun := rfl
@[simp] theorem clearCounters_hostConflict : (s.clearCounters).hostConflict = s.hostConflict := rfl
@[simp] theorem clearCounters_err : (s.clearCounters).err = s.err := rfl
@[simp] theorem clearCounters_vcheck : (s.clearCounters).vcheck = s.vcheck := rfl
@[simp] theorem clearCounters_bufLen : (s.clearCounters).bufLen = s.bufLen := rfl
@[simp] theorem clearCounters_c : (s.clearCounters).c = s.c := rfl
@[simp] theorem clearCounters_rxDeclLen : (s.clearCounters).rxDeclLen = s.rxDeclLen := rfl
@[simp] theorem clearCounters_xferBytes : (s.clearCounters).xferBytes = 0 := rfl
@[simp] theorem clearCounters_xferFrags : (s.clearCounters).xferFrags = 0 := rfl
@[simp] theorem clearCounters_pendOp : (s.clearCounters).pendOp = s.pendOp := rfl
@[simp] theorem clearCounters_rx : (s.clearCounters).rx = s.rx := rfl
@[simp] theorem clearCounters_txN : (s.clearCounters).txN = s.txN := rfl
@[simp] theorem clearCounters_buf : (s.clearCounters).buf = s.buf := rfl
@[simp] theorem clearCounters_pay : (s.clearCounters).pay = s.pay := rfl
@[simp] theorem clearCounters_powerUp : (s.clearCounters).powerUp = s.powerUp := rfl
@[simp] theorem clearCounters_turn : (s.clearCounters).turn = s.turn := rfl
@[simp] theorem clearCounters_events : (s.clearCounters).events = s.events := rfl
@[simp] theorem clearCounters_rxq : (s.clearCounters).rxq = s.rxq := rfl
@[simp] theorem clearCounters_emitted : (s.clearCounters).emitted = s.emitted := rfl
@[simp] theorem clearCounters_hostData : (s.clearCounters).hostData = s.hostData := rfl

/-! `pend` -/

@[simp] theorem pend_cfg (op : Byte) : (s.pend op).cfg = s.cfg := rfl
@[simp] theorem pend_phase (op : Byte) : (s.pend op).phase = .exec := rfl
@[simp] theorem pend_done (op : Byte) : (s.pend op).done = s.done := rfl
@[simp] theorem pend_failed (op : Byte) : (s.pend op).failed = s.failed := rfl
@[simp] theorem pend_cpres (op : Byte) : (s.pend op).cpres = s.cpres := rfl
@[simp] theorem pend_vdone (op : Byte) : (s.pend op).vdone = s.vdone := rfl
@[simp] theorem pend_valid (op : Byte) : (s.pend op).valid = s.valid := rfl
@[simp] theorem pend_sizeMismatch (op : Byte) : (s.pend op).sizeMismatch = s.sizeMismatch := rfl
@[simp] theorem pend_cmdOverrun (op : Byte) : (s.pend op).cmdOverrun = s.cmdOverrun := rfl
@[simp] theorem pend_hostConflict (op : Byte) : (s.pend op).hostConflict = s.hostConflict := rfl
@[simp] theorem pend_err (op : Byte) : (s.pend op).err = s.err := rfl
@[simp] theorem pend_vcheck (op : Byte) : (s.pend op).vcheck = s.vcheck := rfl
@[simp] theorem pend_bufLen (op : Byte) : (s.pend op).bufLen = s.bufLen := rfl
@[simp] theorem pend_c (op : Byte) : (s.pend op).c = s.c := rfl
@[simp] theorem pend_rxDeclLen (op : Byte) : (s.pend op).rxDeclLen = s.rxDeclLen := rfl
@[simp] theorem pend_xferBytes (op : Byte) : (s.pend op).xferBytes = s.xferBytes := rfl
@[simp] theorem pend_xferFrags (op : Byte) : (s.pend op).xferFrags = s.xferFrags := rfl
@[simp] theorem pend_pendOp (op : Byte) : (s.pend op).pendOp = op := rfl
@[simp] theorem pend_rx (op : Byte) : (s.pend op).rx = s.rx := rfl
@[simp] theorem pend_txN (op : Byte) : (s.pend op).txN = s.txN := rfl
@[simp] theorem pend_buf (op : Byte) : (s.pend op).buf = s.buf := rfl
@[simp] theorem pend_pay (op : Byte) : (s.pend op).pay = s.pay := rfl
@[simp] theorem pend_powerUp (op : Byte) : (s.pend op).powerUp = s.powerUp := rfl
@[simp] theorem pend_turn (op : Byte) : (s.pend op).turn = s.turn := rfl
@[simp] theorem pend_events (op : Byte) : (s.pend op).events = s.events := rfl
@[simp] theorem pend_rxq (op : Byte) : (s.pend op).rxq = s.rxq := rfl
@[simp] theorem pend_emitted (op : Byte) : (s.pend op).emitted = s.emitted := rfl
@[simp] theorem pend_hostData (op : Byte) : (s.pend op).hostData = s.hostData := rfl

/-! `emit` -/

@[simp] theorem emit_cfg (e : Emission) : (s.emit e).cfg = s.cfg := rfl
@[simp] theorem emit_phase (e : Emission) : (s.emit e).phase = s.phase := rfl
@[simp] theorem emit_done (e : Emission) : (s.emit e).done = s.done := rfl
@[simp] theorem emit_failed (e : Emission) : (s.emit e).failed = s.failed := rfl
@[simp] theorem emit_cpres (e : Emission) : (s.emit e).cpres = s.cpres := rfl
@[simp] theorem emit_vdone (e : Emission) : (s.emit e).vdone = s.vdone := rfl
@[simp] theorem emit_valid (e : Emission) : (s.emit e).valid = s.valid := rfl
@[simp] theorem emit_sizeMismatch (e : Emission) : (s.emit e).sizeMismatch = s.sizeMismatch := rfl
@[simp] theorem emit_cmdOverrun (e : Emission) : (s.emit e).cmdOverrun = s.cmdOverrun := rfl
@[simp] theorem emit_hostConflict (e : Emission) : (s.emit e).hostConflict = s.hostConflict := rfl
@[simp] theorem emit_err (e : Emission) : (s.emit e).err = s.err := rfl
@[simp] theorem emit_vcheck (e : Emission) : (s.emit e).vcheck = s.vcheck := rfl
@[simp] theorem emit_bufLen (e : Emission) : (s.emit e).bufLen = s.bufLen := rfl
@[simp] theorem emit_c (e : Emission) : (s.emit e).c = s.c := rfl
@[simp] theorem emit_rxDeclLen (e : Emission) : (s.emit e).rxDeclLen = s.rxDeclLen := rfl
@[simp] theorem emit_xferBytes (e : Emission) : (s.emit e).xferBytes = s.xferBytes := rfl
@[simp] theorem emit_xferFrags (e : Emission) : (s.emit e).xferFrags = s.xferFrags := rfl
@[simp] theorem emit_pendOp (e : Emission) : (s.emit e).pendOp = s.pendOp := rfl
@[simp] theorem emit_rx (e : Emission) : (s.emit e).rx = s.rx := rfl
@[simp] theorem emit_txN (e : Emission) : (s.emit e).txN = s.txN := rfl
@[simp] theorem emit_buf (e : Emission) : (s.emit e).buf = s.buf := rfl
@[simp] theorem emit_pay (e : Emission) : (s.emit e).pay = s.pay := rfl
@[simp] theorem emit_powerUp (e : Emission) : (s.emit e).powerUp = s.powerUp := rfl
@[simp] theorem emit_turn (e : Emission) : (s.emit e).turn = s.turn := rfl
@[simp] theorem emit_events (e : Emission) : (s.emit e).events = s.events := rfl
@[simp] theorem emit_rxq (e : Emission) : (s.emit e).rxq = s.rxq := rfl
@[simp] theorem emit_emitted (e : Emission) : (s.emit e).emitted = s.emitted ++ [e] := rfl
@[simp] theorem emit_hostData (e : Emission) : (s.emit e).hostData = s.hostData := rfl

/-! `writeBuf` -/

@[simp] theorem writeBuf_cfg (a : Nat) (bs : List Byte) : (s.writeBuf a bs).cfg = s.cfg := rfl
@[simp] theorem writeBuf_phase (a : Nat) (bs : List Byte) : (s.writeBuf a bs).phase = s.phase := rfl
@[simp] theorem writeBuf_done (a : Nat) (bs : List Byte) : (s.writeBuf a bs).done = s.done := rfl
@[simp] theorem writeBuf_failed (a : Nat) (bs : List Byte) : (s.writeBuf a bs).failed = s.failed := rfl
@[simp] theorem writeBuf_cpres (a : Nat) (bs : List Byte) : (s.writeBuf a bs).cpres = s.cpres := rfl
@[simp] theorem writeBuf_vdone (a : Nat) (bs : List Byte) : (s.writeBuf a bs).vdone = s.vdone := rfl
@[simp] theorem writeBuf_valid (a : Nat) (bs : List Byte) : (s.writeBuf a bs).valid = s.valid := rfl
@[simp] theorem writeBuf_sizeMismatch (a : Nat) (bs : List Byte) : (s.writeBuf a bs).sizeMismatch = s.sizeMismatch := rfl
@[simp] theorem writeBuf_cmdOverrun (a : Nat) (bs : List Byte) : (s.writeBuf a bs).cmdOverrun = s.cmdOverrun := rfl
@[simp] theorem writeBuf_hostConflict (a : Nat) (bs : List Byte) : (s.writeBuf a bs).hostConflict = s.hostConflict := rfl
@[simp] theorem writeBuf_err (a : Nat) (bs : List Byte) : (s.writeBuf a bs).err = s.err := rfl
@[simp] theorem writeBuf_vcheck (a : Nat) (bs : List Byte) : (s.writeBuf a bs).vcheck = s.vcheck := rfl
@[simp] theorem writeBuf_bufLen (a : Nat) (bs : List Byte) : (s.writeBuf a bs).bufLen = s.bufLen := rfl
@[simp] theorem writeBuf_c (a : Nat) (bs : List Byte) : (s.writeBuf a bs).c = s.c := rfl
@[simp] theorem writeBuf_rxDeclLen (a : Nat) (bs : List Byte) : (s.writeBuf a bs).rxDeclLen = s.rxDeclLen := rfl
@[simp] theorem writeBuf_xferBytes (a : Nat) (bs : List Byte) : (s.writeBuf a bs).xferBytes = s.xferBytes := rfl
@[simp] theorem writeBuf_xferFrags (a : Nat) (bs : List Byte) : (s.writeBuf a bs).xferFrags = s.xferFrags := rfl
@[simp] theorem writeBuf_pendOp (a : Nat) (bs : List Byte) : (s.writeBuf a bs).pendOp = s.pendOp := rfl
@[simp] theorem writeBuf_rx (a : Nat) (bs : List Byte) : (s.writeBuf a bs).rx = s.rx := rfl
@[simp] theorem writeBuf_txN (a : Nat) (bs : List Byte) : (s.writeBuf a bs).txN = s.txN := rfl
@[simp] theorem writeBuf_buf (a : Nat) (bs : List Byte) : (s.writeBuf a bs).buf = Memory.write s.buf a bs := rfl
@[simp] theorem writeBuf_pay (a : Nat) (bs : List Byte) : (s.writeBuf a bs).pay = s.pay := rfl
@[simp] theorem writeBuf_powerUp (a : Nat) (bs : List Byte) : (s.writeBuf a bs).powerUp = s.powerUp := rfl
@[simp] theorem writeBuf_turn (a : Nat) (bs : List Byte) : (s.writeBuf a bs).turn = s.turn := rfl
@[simp] theorem writeBuf_events (a : Nat) (bs : List Byte) : (s.writeBuf a bs).events = s.events := rfl
@[simp] theorem writeBuf_rxq (a : Nat) (bs : List Byte) : (s.writeBuf a bs).rxq = s.rxq := rfl
@[simp] theorem writeBuf_emitted (a : Nat) (bs : List Byte) : (s.writeBuf a bs).emitted = s.emitted := rfl
@[simp] theorem writeBuf_hostData (a : Nat) (bs : List Byte) : (s.writeBuf a bs).hostData = s.hostData := rfl

/-! `writePay` -/

@[simp] theorem writePay_cfg (a : Nat) (bs : List Byte) : (s.writePay a bs).cfg = s.cfg := rfl
@[simp] theorem writePay_phase (a : Nat) (bs : List Byte) : (s.writePay a bs).phase = s.phase := rfl
@[simp] theorem writePay_done (a : Nat) (bs : List Byte) : (s.writePay a bs).done = s.done := rfl
@[simp] theorem writePay_failed (a : Nat) (bs : List Byte) : (s.writePay a bs).failed = s.failed := rfl
@[simp] theorem writePay_cpres (a : Nat) (bs : List Byte) : (s.writePay a bs).cpres = s.cpres := rfl
@[simp] theorem writePay_vdone (a : Nat) (bs : List Byte) : (s.writePay a bs).vdone = s.vdone := rfl
@[simp] theorem writePay_valid (a : Nat) (bs : List Byte) : (s.writePay a bs).valid = s.valid := rfl
@[simp] theorem writePay_sizeMismatch (a : Nat) (bs : List Byte) : (s.writePay a bs).sizeMismatch = s.sizeMismatch := rfl
@[simp] theorem writePay_cmdOverrun (a : Nat) (bs : List Byte) : (s.writePay a bs).cmdOverrun = s.cmdOverrun := rfl
@[simp] theorem writePay_hostConflict (a : Nat) (bs : List Byte) : (s.writePay a bs).hostConflict = s.hostConflict := rfl
@[simp] theorem writePay_err (a : Nat) (bs : List Byte) : (s.writePay a bs).err = s.err := rfl
@[simp] theorem writePay_vcheck (a : Nat) (bs : List Byte) : (s.writePay a bs).vcheck = s.vcheck := rfl
@[simp] theorem writePay_bufLen (a : Nat) (bs : List Byte) : (s.writePay a bs).bufLen = s.bufLen := rfl
@[simp] theorem writePay_c (a : Nat) (bs : List Byte) : (s.writePay a bs).c = s.c := rfl
@[simp] theorem writePay_rxDeclLen (a : Nat) (bs : List Byte) : (s.writePay a bs).rxDeclLen = s.rxDeclLen := rfl
@[simp] theorem writePay_xferBytes (a : Nat) (bs : List Byte) : (s.writePay a bs).xferBytes = s.xferBytes := rfl
@[simp] theorem writePay_xferFrags (a : Nat) (bs : List Byte) : (s.writePay a bs).xferFrags = s.xferFrags := rfl
@[simp] theorem writePay_pendOp (a : Nat) (bs : List Byte) : (s.writePay a bs).pendOp = s.pendOp := rfl
@[simp] theorem writePay_rx (a : Nat) (bs : List Byte) : (s.writePay a bs).rx = s.rx := rfl
@[simp] theorem writePay_txN (a : Nat) (bs : List Byte) : (s.writePay a bs).txN = s.txN := rfl
@[simp] theorem writePay_buf (a : Nat) (bs : List Byte) : (s.writePay a bs).buf = s.buf := rfl
@[simp] theorem writePay_pay (a : Nat) (bs : List Byte) : (s.writePay a bs).pay = Memory.write s.pay a bs := rfl
@[simp] theorem writePay_powerUp (a : Nat) (bs : List Byte) : (s.writePay a bs).powerUp = s.powerUp := rfl
@[simp] theorem writePay_turn (a : Nat) (bs : List Byte) : (s.writePay a bs).turn = s.turn := rfl
@[simp] theorem writePay_events (a : Nat) (bs : List Byte) : (s.writePay a bs).events = s.events := rfl
@[simp] theorem writePay_rxq (a : Nat) (bs : List Byte) : (s.writePay a bs).rxq = s.rxq := rfl
@[simp] theorem writePay_emitted (a : Nat) (bs : List Byte) : (s.writePay a bs).emitted = s.emitted := rfl
@[simp] theorem writePay_hostData (a : Nat) (bs : List Byte) : (s.writePay a bs).hostData = s.hostData := rfl

/-! `begin` -/

@[simp] theorem begin_cfg : (s.begin).cfg = s.cfg := rfl
@[simp] theorem begin_phase : (s.begin).phase = s.phase := rfl
@[simp] theorem begin_done : (s.begin).done = s.done := rfl
@[simp] theorem begin_failed : (s.begin).failed = s.failed := rfl
@[simp] theorem begin_cpres : (s.begin).cpres = s.cpres := rfl
@[simp] theorem begin_vdone : (s.begin).vdone = s.vdone := rfl
@[simp] theorem begin_valid : (s.begin).valid = s.valid := rfl
@[simp] theorem begin_sizeMismatch : (s.begin).sizeMismatch = s.sizeMismatch := rfl
@[simp] theorem begin_cmdOverrun : (s.begin).cmdOverrun = s.cmdOverrun := rfl
@[simp] theorem begin_hostConflict : (s.begin).hostConflict = s.hostConflict := rfl
@[simp] theorem begin_err : (s.begin).err = s.err := rfl
@[simp] theorem begin_vcheck : (s.begin).vcheck = s.vcheck := rfl
@[simp] theorem begin_bufLen : (s.begin).bufLen = s.bufLen := rfl
@[simp] theorem begin_c : (s.begin).c = s.c := rfl
@[simp] theorem begin_rxDeclLen : (s.begin).rxDeclLen = s.rxDeclLen := rfl
@[simp] theorem begin_xferBytes : (s.begin).xferBytes = s.xferBytes := rfl
@[simp] theorem begin_xferFrags : (s.begin).xferFrags = s.xferFrags := rfl
@[simp] theorem begin_pendOp : (s.begin).pendOp = s.pendOp := rfl
@[simp] theorem begin_rx : (s.begin).rx = s.rx := rfl
@[simp] theorem begin_txN : (s.begin).txN = s.txN := rfl
@[simp] theorem begin_buf : (s.begin).buf = s.buf := rfl
@[simp] theorem begin_pay : (s.begin).pay = s.pay := rfl
@[simp] theorem begin_powerUp : (s.begin).powerUp = s.powerUp := rfl
@[simp] theorem begin_turn : (s.begin).turn = s.nextEvent.turn := rfl
@[simp] theorem begin_events : (s.begin).events = s.events.tail := rfl
@[simp] theorem begin_rxq : (s.begin).rxq = s.rxq := rfl
@[simp] theorem begin_emitted : (s.begin).emitted = s.emitted := rfl
@[simp] theorem begin_hostData : (s.begin).hostData = s.hostData := rfl

/-! `restart` -/

@[simp] theorem restart_cfg : (s.restart).cfg = s.cfg := rfl
@[simp] theorem restart_phase : (s.restart).phase = .idle := rfl
@[simp] theorem restart_done : (s.restart).done = false := rfl
@[simp] theorem restart_failed : (s.restart).failed = false := rfl
@[simp] theorem restart_cpres : (s.restart).cpres = false := rfl
@[simp] theorem restart_vdone : (s.restart).vdone = false := rfl
@[simp] theorem restart_valid : (s.restart).valid = false := rfl
@[simp] theorem restart_sizeMismatch : (s.restart).sizeMismatch = false := rfl
@[simp] theorem restart_cmdOverrun : (s.restart).cmdOverrun = false := rfl
@[simp] theorem restart_hostConflict : (s.restart).hostConflict = false := rfl
@[simp] theorem restart_err : (s.restart).err = .none := rfl
@[simp] theorem restart_vcheck : (s.restart).vcheck = 0 := rfl
@[simp] theorem restart_bufLen : (s.restart).bufLen = 0 := rfl
@[simp] theorem restart_c : (s.restart).c = Container.zero := rfl
@[simp] theorem restart_rxDeclLen : (s.restart).rxDeclLen = 0 := rfl
@[simp] theorem restart_xferBytes : (s.restart).xferBytes = 0 := rfl
@[simp] theorem restart_xferFrags : (s.restart).xferFrags = 0 := rfl
@[simp] theorem restart_pendOp : (s.restart).pendOp = 0 := rfl
@[simp] theorem restart_rx : (s.restart).rx = Staging.zero := rfl
@[simp] theorem restart_txN : (s.restart).txN = 0 := rfl
@[simp] theorem restart_buf : (s.restart).buf = s.buf := rfl
@[simp] theorem restart_pay : (s.restart).pay = s.pay := rfl
@[simp] theorem restart_powerUp : (s.restart).powerUp = s.powerUp := rfl
@[simp] theorem restart_turn : (s.restart).turn = s.turn := rfl
@[simp] theorem restart_events : (s.restart).events = s.events := rfl
@[simp] theorem restart_rxq : (s.restart).rxq = s.rxq := rfl
@[simp] theorem restart_emitted : (s.restart).emitted = s.emitted := rfl
@[simp] theorem restart_hostData : (s.restart).hostData = s.hostData := rfl

end Sys2Proof.Machine.State
end

