-- ==== Sys2Proof/Laws/Memory.lean ====
section
/-! SUPPORT. The laws of the byte memories: what a read gives after a write, and that every memory operation keeps the
canonical form and the range. -/

namespace Sys2Proof.Machine

/-- Reading after writing one byte: the byte at its address, the old contents everywhere else. -/
@[simp] theorem Memory.lookup_set (m : Memory) (a : Nat) (b : Byte) (x : Nat) :
    Memory.lookup (Memory.set m a b) x = if x = a then some b else Memory.lookup m x := by
  induction m with
  | nil => simp [Memory.set, Memory.lookup]
  | cons kv m ih =>
    obtain ⟨k, v⟩ := kv
    simp only [Memory.set]
    split
    · simp [Memory.lookup]
    · split
      · subst_vars
        simp only [Memory.lookup]
        split <;> rfl
      · simp only [Memory.lookup, ih]
        split
        · rename_i h1 h2 h3
          subst h3
          simp [Ne.symm h2]
        · rfl

/-- Reading after writing a byte string. -/
theorem Memory.lookup_write (bs : List Byte) (m : Memory) (a x : Nat) :
    Memory.lookup (Memory.write m a bs) x =
      if a ≤ x ∧ x < a + bs.length then some (byteAt bs (x - a)) else Memory.lookup m x := by
  induction bs generalizing m a with
  | nil =>
    have : ¬ (a ≤ x ∧ x < a) := by omega
    simp [Memory.write, this]
  | cons b bs ih =>
    rw [Memory.write, ih, Memory.lookup_set]
    simp only [List.length_cons]
    by_cases h : a + 1 ≤ x ∧ x < a + 1 + bs.length
    · have h2 : a ≤ x ∧ x < a + (bs.length + 1) := by omega
      have h3 : x - a = (x - (a + 1)) + 1 := by omega
      rw [if_pos h, if_pos h2, h3]
      simp [byteAt]
    · by_cases h4 : x = a
      · subst h4
        simp [byteAt]
      · have h2 : ¬ (a ≤ x ∧ x < a + (bs.length + 1)) := by omega
        rw [if_neg h, if_neg h4, if_neg h2]

/-- The first listed address of a memory bounds from below what a write adds. -/
theorem Memory.wf_cons (a : Nat) (v : Byte) (m : Memory) :
    Memory.wf ((a, v) :: m) = true ↔ (∀ k w m', m = (k, w) :: m' → a < k) ∧ Memory.wf m = true := by
  cases m with
  | nil => simp [Memory.wf]
  | cons kw m =>
    obtain ⟨k, w⟩ := kw
    simp only [Memory.wf, Bool.and_eq_true, decide_eq_true_eq, List.cons.injEq, Prod.mk.injEq]
    constructor
    · rintro ⟨h1, h2⟩
      exact ⟨by rintro k' w' m' ⟨⟨rfl, rfl⟩, rfl⟩; exact h1, h2⟩
    · rintro ⟨h1, h2⟩
      exact ⟨h1 k w m ⟨⟨rfl, rfl⟩, rfl⟩, h2⟩

/-- Writing one byte keeps the canonical form. -/
theorem Memory.wf_set (m : Memory) (a : Nat) (b : Byte) (h : Memory.wf m = true) :
    Memory.wf (Memory.set m a b) = true := by
  induction m with
  | nil => rfl
  | cons kv m ih =>
    obtain ⟨k, v⟩ := kv
    rw [Memory.wf_cons] at h
    obtain ⟨hlow, hwf⟩ := h
    simp only [Memory.set]
    split
    · rename_i hak
      rw [Memory.wf_cons, Memory.wf_cons]
      exact ⟨by rintro k' w' m' h; cases h; exact hak, hlow, hwf⟩
    · split
      · subst_vars
        rw [Memory.wf_cons]
        exact ⟨hlow, hwf⟩
      · rename_i h1 h2
        rw [Memory.wf_cons]
        refine ⟨?_, ih hwf⟩
        intro k' w' m' hm
        cases m with
        | nil => simp only [Memory.set, List.cons.injEq, Prod.mk.injEq] at hm; omega
        | cons kw m =>
          obtain ⟨k2, w2⟩ := kw
          have hk2 := hlow k2 w2 m rfl
          simp only [Memory.set] at hm
          split at hm
          · simp only [List.cons.injEq, Prod.mk.injEq] at hm; omega
          · split at hm <;> simp only [List.cons.injEq, Prod.mk.injEq] at hm <;> omega

/-- Writing a byte string keeps the canonical form. -/
theorem Memory.wf_write (bs : List Byte) (m : Memory) (a : Nat) (h : Memory.wf m = true) :
    Memory.wf (Memory.write m a bs) = true := by
  induction bs generalizing m a with
  | nil => exact h
  | cons b bs ih => exact ih _ _ (Memory.wf_set m a b h)

/-- Writing one byte below `n` keeps the range. -/
theorem Memory.below_set (n : Nat) (m : Memory) (a : Nat) (b : Byte) (h : Memory.below n m = true) (ha : a < n) :
    Memory.below n (Memory.set m a b) = true := by
  induction m with
  | nil => simp [Memory.set, Memory.below, ha]
  | cons kv m ih =>
    obtain ⟨k, v⟩ := kv
    simp only [Memory.below, Bool.and_eq_true, decide_eq_true_eq] at h
    simp only [Memory.set]
    split
    · simp [Memory.below, ha, h]
    · split
      · simp [Memory.below, ha, h]
      · simp [Memory.below, h, ih h.2]

/-- Writing a byte string that ends at or below `n` keeps the range. -/
theorem Memory.below_write (n : Nat) (bs : List Byte) (m : Memory) (a : Nat) (h : Memory.below n m = true)
    (ha : a + bs.length ≤ n ∨ bs = []) : Memory.below n (Memory.write m a bs) = true := by
  induction bs generalizing m a with
  | nil => exact h
  | cons b bs ih =>
    have hlen : a + (bs.length + 1) ≤ n := by simpa using ha
    refine ih _ _ (Memory.below_set n m a b h (by omega)) ?_
    left; omega

/-! The same through the state's reads. -/

/-- A byte of BUF after a write of BUF. -/
theorem bufByte_writeBuf (s : State) (a : Nat) (bs : List Byte) (x : Nat) :
    (s.writeBuf a bs).bufByte x = if a ≤ x ∧ x < a + bs.length then byteAt bs (x - a) else s.bufByte x := by
  simp only [State.bufByte, State.writeBuf, Memory.lookup_write]
  split <;> rfl

/-- A byte of PAY after a write of PAY. -/
theorem payByte_writePay (s : State) (a : Nat) (bs : List Byte) (x : Nat) :
    (s.writePay a bs).payByte x = if a ≤ x ∧ x < a + bs.length then byteAt bs (x - a) else s.payByte x := by
  simp only [State.payByte, State.writePay, Memory.lookup_write]
  split <;> rfl

/-- What BUF reads depends on BUF and the power-up alone. -/
theorem bufByte_congr {s t : State} (hb : t.buf = s.buf) (hp : t.powerUp = s.powerUp) (a : Nat) :
    t.bufByte a = s.bufByte a := by
  simp only [State.bufByte, hb, hp]

/-- What PAY reads depends on PAY and the power-up alone. -/
theorem payByte_congr {s t : State} (hb : t.pay = s.pay) (hp : t.powerUp = s.powerUp) (a : Nat) :
    t.payByte a = s.payByte a := by
  simp only [State.payByte, hb, hp]

@[simp] theorem readBuf_length (s : State) (a n : Nat) : (s.readBuf a n).length = n := by simp [State.readBuf]

@[simp] theorem readPay_length (s : State) (a n : Nat) : (s.readPay a n).length = n := by simp [State.readPay]

/-- A byte of a string read from BUF. -/
theorem byteAt_readBuf (s : State) (a n i : Nat) (h : i < n) : byteAt (s.readBuf a n) i = s.bufByte (a + i) := by
  simp [byteAt, State.readBuf, h]

/-- A byte of a string read from PAY. -/
theorem byteAt_readPay (s : State) (a n i : Nat) (h : i < n) : byteAt (s.readPay a n) i = s.payByte (a + i) := by
  simp [byteAt, State.readPay, h]

end Sys2Proof.Machine
end

