-- ==== Sys2Proof/Laws/Ops.lean ====
section
/-! SUPPORT. For each shared operation, once, everything it can do. -/

namespace Sys2Proof.Machine

/-- What presenting a command word comes to (R75, R76). -/
theorem present_cases (f : State → State) (s : State) :
    (s.phase = .idle ∧ present f s = f s.accept) ∨ (s.phase ≠ .idle ∧ present f s = s.flagOverrun) := by
  by_cases h : s.phase = .idle
  · exact .inl ⟨h, by simp [present, h]⟩
  · exact .inr ⟨h, by simp [present, h]⟩

/-- A codec command always answers a next state, and it is one of these four. -/
theorem codecCommand_cases {op : Byte} {f g : State → State} {s t : State}
    (h : codecCommand op f g s = .next t) :
    (s.turn = .host ∧ s.phase = .idle ∧ t = (f s.accept).pend op) ∨
    (s.turn = .host ∧ s.phase ≠ .idle ∧ t = s.flagOverrun) ∨
    (s.turn = .engine ∧ s.phase = .exec ∧ s.pendOp = op ∧ t = g s) ∨
    (s.turn ≠ .host ∧ t = s) := by
  unfold codecCommand at h
  cases ht : s.turn <;> simp only [ht] at h
  case host =>
    cases h
    rcases present_cases (fun t => (f t).pend op) s with ⟨hi, he⟩ | ⟨hi, he⟩
    · exact .inl ⟨rfl, hi, he⟩
    · exact .inr (.inl ⟨rfl, hi, he⟩)
  case engine =>
    split at h <;> cases h
    · rename_i hc
      exact .inr (.inr (.inl ⟨rfl, hc.1, hc.2, rfl⟩))
    · exact .inr (.inr (.inr ⟨by simp, rfl⟩))
  all_goals cases h; exact .inr (.inr (.inr ⟨by simp, rfl⟩))

/-- A codec command at its EXEC step. -/
theorem codecCommand_exec {op : Byte} {f g : State → State} {s : State}
    (ht : s.turn = .engine) (hp : s.phase = .exec) (ho : s.pendOp = op) :
    codecCommand op f g s = .next (g s) := by
  simp [codecCommand, ht, hp, ho]

/-- A codec command at its acceptance. -/
theorem codecCommand_accepted {op : Byte} {f g : State → State} {s : State}
    (ht : s.turn = .host) (hp : s.phase = .idle) :
    codecCommand op f g s = .next ((f s.accept).pend op) := by
  simp [codecCommand, ht, present, hp]

/-- A transfer command always answers a next state, and it is one of these four. -/
theorem transferCommand_cases {f : State → State} {g : Answer → State → State} {s t : State}
    (h : transferCommand f g s = .next t) :
    (s.turn = .host ∧ s.phase = .idle ∧ t = f s.accept) ∨
    (s.turn = .host ∧ s.phase ≠ .idle ∧ t = s.flagOverrun) ∨
    (∃ r, s.turn = .answer r ∧ t = g r s) ∨
    (s.turn ≠ .host ∧ t = s) := by
  unfold transferCommand at h
  cases ht : s.turn <;> simp only [ht] at h <;> cases h
  case host =>
    rcases present_cases f s with ⟨hi, he⟩ | ⟨hi, he⟩
    · exact .inl ⟨rfl, hi, he⟩
    · exact .inr (.inl ⟨rfl, hi, he⟩)
  case answer r => exact .inr (.inr (.inl ⟨r, rfl, rfl⟩))
  all_goals exact .inr (.inr (.inr ⟨by simp, rfl⟩))

/-- Taking a frame always answers a next state, and it is one of these three. -/
theorem takeFrame_cases {f g : State → State} {s t : State} (h : takeFrame f g s = .next t) :
    (s.phase = .rxMeta ∧ t = f s) ∨ (s.phase = .rxChunks ∧ t = g s) ∨ (s.receiving = false ∧ t = s) := by
  unfold takeFrame at h
  cases hp : s.phase <;> simp only [hp] at h <;> cases h <;> simp [State.receiving, hp]

/-- A failed reception is an error entry, with RX_CLOSE before it where the block itself found the error (R115). -/
theorem failReceive_cases (s : State) (code : ErrCode) :
    (code = .protoTransportFailure ∧ s.failReceive code = s.fail code) ∨
    (code ≠ .protoTransportFailure ∧ s.failReceive code = (s.emit .rxClose).fail code) := by
  by_cases h : code = .protoTransportFailure
  · exact .inl ⟨h, by simp [State.failReceive, h]⟩
  · exact .inr ⟨h, by simp [State.failReceive, h]⟩

/-- What a saturating counter holds (R12 `sat_32`). -/
theorem satAdd_toNat (v : Word) (n : Nat) : (satAdd v n).toNat = min (v.toNat + n) (2 ^ 32 - 1) := by
  simp only [satAdd, BitVec.toNat_ofNat]
  omega

/-- The EXEC step of DECODE: a failure that writes only the error entry, or the whole parse (R84). -/
theorem performDecode_cases (s : State) :
    (∃ code, code ≠ .none ∧ performDecode s = s.fail code) ∨
    (s.bufLen.toNat ≤ s.cfg.bufBytes ∧
      hdrBytes + (le32 (s.readBuf 40 4) 0).toNat ≤ s.bufLen.toNat ∧
      (le32 (s.readBuf 40 4) 0).toNat ≤ s.cfg.payBytes ∧
      performDecode s =
        { s.writePay 0 ((s.readBuf 0 (hdrBytes + (le32 (s.readBuf 40 4) 0).toNat)).drop hdrBytes) with
          c := .parse (s.readBuf 0 (hdrBytes + (le32 (s.readBuf 40 4) 0).toNat)), cpres := true }.complete) := by
  unfold performDecode
  dsimp only
  split
  · exact .inl ⟨_, by simp, rfl⟩
  · split
    · exact .inl ⟨_, by simp, rfl⟩
    · split
      · exact .inl ⟨_, by simp, rfl⟩
      · split
        · exact .inl ⟨_, by simp, rfl⟩
        · exact .inr ⟨by omega, by omega, by omega, rfl⟩

/-- The EXEC step of VALIDATE (R85). -/
theorem performValidate_cases (s : State) :
    (s.cpres = false ∧ performValidate s = s.fail .noContainer) ∨
    (s.cpres = true ∧
      performValidate s = { s with vcheck := s.c.checks, valid := s.c.isValid, vdone := true }.complete) := by
  unfold performValidate
  cases h : s.cpres <;> simp

/-- The EXEC step of ENCODE (R88). The second capacity check never decides, by R9. -/
theorem performEncode_cases (s : State) :
    (s.cpres = false ∧ performEncode s = s.fail .noContainer) ∨
    (s.cpres = true ∧ s.cfg.payBytes < s.c.dataSize.toNat ∧ performEncode s = s.fail .capacity) ∨
    (s.cpres = true ∧ s.c.dataSize.toNat ≤ s.cfg.payBytes ∧
      hdrBytes + s.c.dataSize.toNat ≤ s.cfg.bufBytes ∧
      performEncode s =
        { s.writeBuf 0 s.image with bufLen := BitVec.ofNat 32 (hdrBytes + s.c.dataSize.toNat) }.complete) := by
  have hb := s.cfg.buf_ge
  unfold performEncode
  cases h : s.cpres
  · exact .inl ⟨rfl, by simp⟩
  · refine .inr ?_
    by_cases h1 : s.cfg.payBytes < s.c.dataSize.toNat
    · exact .inl ⟨rfl, h1, by simp [h1]⟩
    · refine .inr ⟨rfl, by omega, by omega, ?_⟩
      have h2 : ¬ (s.cfg.payBytes < s.c.dataSize.toNat ∨ s.cfg.bufBytes < hdrBytes + s.c.dataSize.toNat) := by omega
      simp only [Bool.true_eq_false, if_false, h2]

/-- The EXEC step of CONSTRUCT (R90). -/
theorem performConstruct_cases (s : State) :
    (s.cfg.payBytes < s.c.dataSize.toNat ∧ performConstruct s = s.fail .capacity) ∨
    (s.c.dataSize.toNat ≤ s.cfg.payBytes ∧ performConstruct s =
      { s with
        c := constructFields s.c.channels s.c.sampleRate s.c.byteRate s.c.blockAlign s.c.bits s.c.dataSize,
        cpres := true }.complete) := by
  unfold performConstruct
  by_cases h : s.cfg.payBytes < s.c.dataSize.toNat
  · exact .inl ⟨h, by simp [h]⟩
  · exact .inr ⟨by omega, by simp [h]⟩

/-- The acceptance of SEND: it takes the error entry and nothing else, or starts with the counters at 0 (R94). -/
theorem startSend_cases (s : State) :
    (s.cpres = false ∧ startSend s = s.fail .noContainer) ∨
    (s.cpres = true ∧ s.cfg.payBytes < s.c.dataSize.toNat ∧ startSend s = s.fail .capacity) ∨
    (s.cpres = true ∧ s.c.dataSize.toNat ≤ s.cfg.payBytes ∧
      startSend s = { s.clearCounters with txN := s.c.dataSize, phase := .txMeta }) := by
  unfold startSend
  cases h : s.cpres
  · exact .inl ⟨rfl, by simp⟩
  · refine .inr ?_
    by_cases h1 : s.cfg.payBytes < s.c.dataSize.toNat
    · exact .inl ⟨rfl, h1, by simp [h1]⟩
    · exact .inr ⟨rfl, by omega, by simp [h1]⟩

/-- An answer: nothing where no frame is offered; the error entry at FAIL; what follows the frame at OK (R96 to R99). -/
theorem answerSend_cases (r : Answer) (s : State) :
    (s.offered = none ∧ answerSend r s = s) ∨
    (∃ i, s.offered = some i ∧ r = .fail ∧
      answerSend r s = (s.emit (.frame (encode i) .fail)).fail .protoTransportFailure) ∨
    (∃ i, s.offered = some i ∧ r = .ok ∧ answerSend r s = advanceSend (s.emit (.frame (encode i) .ok))) := by
  unfold answerSend
  cases h : s.offered with
  | none => exact .inl ⟨rfl, rfl⟩
  | some i =>
    cases r with
    | fail => exact .inr (.inl ⟨i, rfl, rfl, rfl⟩)
    | ok => exact .inr (.inr ⟨i, rfl, rfl, rfl⟩)

/-- A META in RX_META: stored, and the reception goes on, or fails for want of room (R105). -/
theorem acceptMeta_cases (ch : Half) (sr br : Word) (ba bps : Half) (len : Word) (s : State) :
    (s.cfg.payBytes < len.toNat ∧ acceptMeta ch sr br ba bps len s =
      ({ s with rx := { ch := ch, sr := sr, br := br, ba := ba, bps := bps }, rxDeclLen := len }.emit
        .rxClose).fail .capacity) ∨
    (len.toNat ≤ s.cfg.payBytes ∧ acceptMeta ch sr br ba bps len s =
      { s with rx := { ch := ch, sr := sr, br := br, ba := ba, bps := bps }, rxDeclLen := len,
               phase := .rxChunks }) := by
  by_cases h : s.cfg.payBytes < len.toNat
  · exact .inl ⟨h, by simp [acceptMeta, h, State.failReceive]⟩
  · exact .inr ⟨by omega, by simp [acceptMeta, h]⟩

/-- A host write to a register: ignored, dropped, or taken (R30, R32, R38, R50). -/
theorem writeReg_cases (s : State) (r : Option Reg) (v : Word) :
    s.writeReg r v = s ∨
    (s.phase ≠ .idle ∧ s.writeReg r v = s.flagConflict) ∨
    (s.phase = .idle ∧ r = some .bufLen ∧ s.writeReg r v = { s with bufLen := v }) ∨
    (s.phase = .idle ∧ ∃ reg c, r = some reg ∧ s.c.put reg v = some c ∧
      s.writeReg r v = { s with c := c }.clearValidation) := by
  cases r with
  | none => exact .inl rfl
  | some reg =>
    by_cases hb : s.phase = .idle
    · cases hc : s.c.put reg v with
      | none =>
        cases reg <;> simp only [Container.put, reduceCtorEq] at hc <;>
          first
            | exact .inl rfl
            | exact .inr (.inr (.inl ⟨hb, rfl, by simp [State.writeReg, State.busy, hb]⟩))
      | some c =>
        refine .inr (.inr (.inr ⟨hb, reg, c, rfl, hc, ?_⟩))
        cases reg <;> simp only [Container.put, reduceCtorEq, Option.some.injEq] at hc <;> subst hc <;>
          simp [State.writeReg, State.busy, hb, Container.put]
    · cases reg <;>
        first
          | exact .inl rfl
          | exact .inr (.inl ⟨hb, by simp [State.writeReg, State.busy, hb, Container.put]⟩)

end Sys2Proof.Machine
end

