-- ==== Sys2Proof/Laws/PerInstr.lean ====
section
/-! SUPPORT. What is proved instruction by instruction, one lemma per constructor: how long an encoding is. A command
is one 32-bit word (30_encoding.md R61), a frame its four header bytes and its body (R68, R71). -/

namespace Sys2Proof.Laws.EncodingLength

/-- The number of bytes of a well-formed instruction's encoding; never more than the longest CHUNK's 5124 (R71). -/
def Statement (i : Instr) : Prop :=
  i.WellFormed = true →
    (encode i).length = (match i with
      | .metaFrame _ _ _ _ _ _ => 22
      | .chunkFrame body => 4 + body.length
      | .decode => 4
      | .validate => 4
      | .encode => 4
      | .construct => 4
      | .send => 4
      | .receive => 4
      | .abort => 4
      | .endFrame => 4) ∧
    (encode i).length ≤ 5124

theorem decode : Statement .decode := fun _ => ⟨rfl, by decide⟩

theorem validate : Statement .validate := fun _ => ⟨rfl, by decide⟩

theorem encode : Statement .encode := fun _ => ⟨rfl, by decide⟩

theorem construct : Statement .construct := fun _ => ⟨rfl, by decide⟩

theorem send : Statement .send := fun _ => ⟨rfl, by decide⟩

theorem receive : Statement .receive := fun _ => ⟨rfl, by decide⟩

theorem abort : Statement .abort := fun _ => ⟨rfl, by decide⟩

theorem metaFrame (ch : Half) (sr br : Word) (ba bps : Half) (len : Word) :
    Statement (.metaFrame ch sr br ba bps len) := fun _ =>
  have h : (Sys2Proof.encode (.metaFrame ch sr br ba bps len)).length = 22 := rfl
  ⟨h, by omega⟩

theorem chunkFrame (body : List Byte) : Statement (.chunkFrame body) := fun hw => by
  have h : (Sys2Proof.encode (.chunkFrame body)).length = 4 + body.length := by
    simp [Sys2Proof.encode]
  have : body.length ≤ 5120 := of_decide_eq_true hw
  exact ⟨h, by omega⟩

theorem endFrame : Statement .endFrame := fun _ => ⟨rfl, by decide⟩

end Sys2Proof.Laws.EncodingLength
end

