-- ==== Sys2Proof/Laws/Step.lean ====
section
/-! SUPPORT. Everything one step can do, said once (`Took`, `took_of_step`), and the state a step acts in. -/

namespace Sys2Proof.Machine

theorem nextEvent_cons {s : State} {e : Event} {rest : List Event} (h : s.events = e :: rest) :
    s.nextEvent = e := by
  simp [State.nextEvent, h]

theorem nextEvent_nil {s : State} (h : s.events = []) : s.nextEvent = .engine := by
  simp [State.nextEvent, h]

theorem begin_cons {s : State} {e : Event} {rest : List Event} (h : s.events = e :: rest) :
    s.begin = { s with events := rest, turn := e.turn } := by
  simp [State.begin, State.nextEvent, h]

theorem begin_nil {s : State} (h : s.events = []) : s.begin = { s with turn := .engine } := by
  simp [State.begin, State.nextEvent, h, Event.turn]

/-- The four bytes of a word are presented at CMD as that word. -/
theorem decode_cmd_bytes32 (w : Word) : decode .cmd (bytes32 w) = decodeCommand w := by
  have h : le32 (bytes32 w) 0 = w := by simpa using le32_bytes32 w []
  simp [decode, h]

/-- The command at offset 0x04 is the only register of that name. -/
theorem regAt_eq_cmd (a : Nat) : regAt a = some .cmd ↔ a = 0x04 := by
  constructor
  · intro h
    unfold regAt at h
    split at h <;> first | rfl | simp at h
  · rintro rfl
    rfl

/-- The register window admits 32-bit aligned offsets below 256 (R47). -/
theorem admitted_iff_legal (cfg : Config) (x : Access) :
    (match x with
     | .read sp w a => admitted cfg sp w a
     | .write sp w a _ => admitted cfg sp w a) = true ↔ x.Legal cfg := by
  cases x with
  | read sp w a =>
    cases sp <;> simp only [admitted, admittedIn, Access.Legal, Bool.and_eq_true, decide_eq_true_eq,
      and_assoc]
    constructor
    · rintro ⟨rfl, -, h⟩
      exact ⟨rfl, by simp only [Width.bytes] at h; omega⟩
    · rintro ⟨rfl, h⟩
      exact ⟨rfl, by simp, by simp only [Width.bytes]; omega⟩
  | write sp w a v =>
    cases sp <;> simp only [admitted, admittedIn, Access.Legal, Bool.and_eq_true, decide_eq_true_eq,
      and_assoc]
    constructor
    · rintro ⟨rfl, -, h⟩
      exact ⟨rfl, by simp only [Width.bytes] at h; omega⟩
    · rintro ⟨rfl, h⟩
      exact ⟨rfl, by simp, by simp only [Width.bytes]; omega⟩

/-- Every command word the decoder accepts, and its instruction. -/
theorem decodeCommand_ok {w : Word} {i : Instr} (h : decodeCommand w = .ok i) :
    (w = 0x00000001 ∧ i = .decode) ∨ (w = 0x00000002 ∧ i = .validate) ∨ (w = 0x00000003 ∧ i = .encode) ∨
    (w = 0x00000004 ∧ i = .construct) ∨ (w = 0x00000005 ∧ i = .send) ∨ (w = 0x00000006 ∧ i = .receive) ∨
    (w = 0x00000007 ∧ i = .abort) := by
  unfold decodeCommand at h
  split at h
  · exact .inl ⟨‹_›, by cases h; rfl⟩
  split at h
  · exact .inr (.inl ⟨‹_›, by cases h; rfl⟩)
  split at h
  · exact .inr (.inr (.inl ⟨‹_›, by cases h; rfl⟩))
  split at h
  · exact .inr (.inr (.inr (.inl ⟨‹_›, by cases h; rfl⟩)))
  split at h
  · exact .inr (.inr (.inr (.inr (.inl ⟨‹_›, by cases h; rfl⟩))))
  split at h
  · exact .inr (.inr (.inr (.inr (.inr (.inl ⟨‹_›, by cases h; rfl⟩)))))
  split at h
  · exact .inr (.inr (.inr (.inr (.inr (.inr ⟨‹_›, by cases h; rfl⟩)))))
  · cases h

/-- The pending command of PEND_OP, by its opcode (R78). -/
theorem pendingCommand_some {op : Byte} {i : Instr} (h : pendingCommand op = some i) :
    (op = 0x01 ∧ i = .decode) ∨ (op = 0x02 ∧ i = .validate) ∨ (op = 0x03 ∧ i = .encode) ∨
    (op = 0x04 ∧ i = .construct) := by
  have hop : ∀ k : Byte, op.setWidth 32 = k.setWidth 32 → op = k := by
    intro k hk
    have := congrArg BitVec.toNat hk
    simp only [BitVec.toNat_setWidth] at this
    apply BitVec.eq_of_toNat_eq
    have := op.isLt
    have := k.isLt
    omega
  unfold pendingCommand at h
  split at h <;> rename_i hd <;> try cases h
  all_goals
    rcases decodeCommand_ok hd with h1 | h1 | h1 | h1 | h1 | h1 | h1 <;> obtain ⟨hw, hi⟩ := h1 <;>
      first
        | cases hi; done
        | skip
  · exact .inl ⟨hop 0x01 hw, rfl⟩
  · exact .inr (.inl ⟨hop 0x02 hw, rfl⟩)
  · exact .inr (.inr (.inl ⟨hop 0x03 hw, rfl⟩))
  · exact .inr (.inr (.inr ⟨hop 0x04 hw, rfl⟩))

/-- What a step that goes on did. -/
inductive Took (s t : State) : Prop where
  | hostRead (sp : Space) (w : Width) (a : Nat) (he : s.nextEvent = .host (.read sp w a))
      (hl : (Access.read sp w a).Legal s.cfg) (ht : t = Machine.hostRead sp w a s.begin)
  | command (v : Word) (i : Instr) (he : s.nextEvent = cmdWrite v) (hd : decodeCommand v = .ok i)
      (ht : exec i s.begin = .next t)
  | illegal (v : Word) (e : DecodeError) (he : s.nextEvent = cmdWrite v) (hd : decodeCommand v = .reject e)
      (ht : t = illegalCommand s.begin)
  | regWrite (a : Nat) (v : Word) (he : s.nextEvent = .host (.write .reg .w32 a v)) (ha : a ≠ 0x04)
      (ht : t = s.begin.writeReg (regAt a) v)
  | bufWrite (w : Width) (a : Nat) (v : Word) (he : s.nextEvent = .host (.write .buf w a v))
      (hl : w ≠ .other ∧ a % w.bytes = 0 ∧ a + w.bytes ≤ s.cfg.bufBytes) (hp : s.phase = .idle)
      (ht : t = s.begin.writeBuf a (bytesOfWord w v))
  | payWrite (w : Width) (a : Nat) (v : Word) (he : s.nextEvent = .host (.write .pay w a v))
      (hl : w ≠ .other ∧ a % w.bytes = 0 ∧ a + w.bytes ≤ s.cfg.payBytes) (hp : s.phase = .idle)
      (ht : t = s.begin.writePay a (bytesOfWord w v))
  | dropped (sp : Space) (w : Width) (a : Nat) (v : Word) (he : s.nextEvent = .host (.write sp w a v))
      (hsp : sp ≠ .reg) (hp : s.phase ≠ .idle) (ht : t = s.begin.flagConflict)
  | exec (i : Instr) (he : s.nextEvent = .engine) (hp : s.phase = .exec) (hi : pendingCommand s.pendOp = some i)
      (ht : Machine.exec i s.begin = .next t)
  | answered (r : Answer) (he : s.nextEvent = .answer r) (hp : s.sending = true)
      (ht : Machine.exec .send s.begin = .next t)
  | linkError (q : List RxEvent) (he : s.nextEvent = .deliver) (hp : s.receiving = true)
      (hq : s.rxq = .linkError :: q) (ht : t = { s.begin with rxq := q }.fail .protoTransportFailure)
  | malformed (f : List Byte) (q : List RxEvent) (e : DecodeError) (he : s.nextEvent = .deliver)
      (hp : s.receiving = true) (hq : s.rxq = .frame f :: q) (hd : decodeFrame f = .reject e)
      (ht : t = ({ s.begin with rxq := q }.emit .rxClose).fail .protoMalformed)
  | frame (f : List Byte) (q : List RxEvent) (i : Instr) (he : s.nextEvent = .deliver) (hp : s.receiving = true)
      (hq : s.rxq = .frame f :: q) (hd : decodeFrame f = .ok i)
      (ht : Machine.exec i { s.begin with rxq := q } = .next t)
  | reset (he : s.nextEvent = .reset) (ht : t = s.begin.restart)
  | idle (he : (s.nextEvent = .engine ∧ s.phase ≠ .exec) ∨ (∃ r, s.nextEvent = .answer r ∧ s.sending = false) ∨
        (s.nextEvent = .deliver ∧ (s.receiving = false ∨ s.rxq = []))) (ht : t = s.begin)

/-- Everything a step can do when it goes on. -/
theorem took_of_step {s t : State} (h : step s = .next t) : Took s t := by
  unfold step fetch at h
  cases he : s.nextEvent with
  | host x =>
    simp only [he, hostAccess] at h
    cases x with
    | read sp w a =>
      have hl := admitted_iff_legal s.cfg (.read sp w a)
      simp only at hl h
      by_cases ha : admitted s.cfg sp w a = true
      · simp only [State.begin_cfg, ha, if_true] at h
        cases h
        exact .hostRead sp w a he (hl.mp ha) rfl
      · simp [ha] at h
    | write sp w a v =>
      have hl := admitted_iff_legal s.cfg (.write sp w a v)
      simp only at hl h
      by_cases ha : admitted s.cfg sp w a = true
      swap
      · simp [ha] at h
      simp only [State.begin_cfg, ha, if_true, hostWrite] at h
      have hlegal := hl.mp ha
      cases sp with
      | reg =>
        obtain ⟨rfl, -, -⟩ := hlegal
        simp only [regAt_eq_cmd] at h
        by_cases h4 : a = 0x04
        · subst h4
          simp only [if_true, presentWord, decode_cmd_bytes32] at h
          cases hd : decodeCommand v with
          | ok i => simp only [hd] at h; exact .command v i he hd h
          | reject e => simp only [hd] at h; cases h; exact .illegal v e he hd rfl
        · simp only [h4, if_false] at h
          cases h
          exact .regWrite a v he h4 rfl
      | buf =>
        simp only [State.busy, State.begin_phase] at h
        by_cases hp : s.phase = .idle
        · simp only [hp, ne_eq, not_true, decide_false, Bool.false_eq_true, if_false] at h
          cases h
          exact .bufWrite w a v he hlegal hp rfl
        · simp only [hp, ne_eq, not_false_eq_true, decide_true, if_true] at h
          cases h
          exact .dropped .buf w a v he (by simp) hp rfl
      | pay =>
        simp only [State.busy, State.begin_phase] at h
        by_cases hp : s.phase = .idle
        · simp only [hp, ne_eq, not_true, decide_false, Bool.false_eq_true, if_false] at h
          cases h
          exact .payWrite w a v he hlegal hp rfl
        · simp only [hp, ne_eq, not_false_eq_true, decide_true, if_true] at h
          cases h
          exact .dropped .pay w a v he (by simp) hp rfl
  | engine =>
    simp only [he, engineStep, State.begin_phase, State.begin_pendOp] at h
    by_cases hp : s.phase = .exec
    · simp only [hp, if_true] at h
      cases hi : pendingCommand s.pendOp with
      | none => simp [hi] at h
      | some i => simp only [hi] at h; exact .exec i he hp hi h
    · simp only [hp, if_false] at h
      cases h
      exact .idle (.inl ⟨he, hp⟩) rfl
  | answer r =>
    simp only [he] at h
    cases hs : s.sending with
    | true => simp only [hs, if_true] at h; exact .answered r he hs h
    | false =>
      simp only [hs, Bool.false_eq_true, if_false] at h
      cases h
      exact .idle (.inr (.inl ⟨r, he, hs⟩)) rfl
  | deliver =>
    have hrec : s.begin.receiving = s.receiving := rfl
    simp only [he, deliverStep, hrec, State.begin_rxq] at h
    cases hr : s.receiving with
    | false =>
      simp only [hr, Bool.false_eq_true, if_false] at h
      cases h
      exact .idle (.inr (.inr ⟨he, .inl hr⟩)) rfl
    | true =>
      simp only [hr, if_true] at h
      cases hq : s.rxq with
      | nil =>
        simp only [hq] at h
        cases h
        exact .idle (.inr (.inr ⟨he, .inr hq⟩)) rfl
      | cons e q =>
        cases e with
        | linkError =>
          simp only [hq] at h
          cases h
          exact .linkError q he hr hq rfl
        | frame f =>
          simp only [hq, decode] at h
          cases hd : decodeFrame f with
          | ok i => simp only [hd] at h; exact .frame f q i he hr hq hd h
          | reject e => simp only [hd] at h; cases h; exact .malformed f q e he hr hq hd rfl
  | reset =>
    simp only [he] at h
    cases h
    exact .reset he rfl

end Sys2Proof.Machine
end

