-- ==== Sys2Proof/Tests/Slice0.lean ====
section
/-! SUPPORT. The model's own tests. Expected values are those of spec/95_test_vectors.md (the vector is named), or are
worked out from the rule named; the witness theorems show states that meet the hypotheses of each statement. -/

namespace Sys2Proof.Tests

open Sys2Proof.Machine Sys2Proof.Claims

/-! ## States the tests are written in -/

/-- Right after reset (PAY_BYTES 64, BUF_BYTES 128, FRAG_MAX 5120: section 0 of the vectors), but in a phase and at a
turn. -/
def inPhase (ph : Phase) (tu : Turn) : State := { State.reset with phase := ph, turn := tu }

/-- The parameters of P3: FRAG_MAX = 4. -/
def smallFragments : Config := ⟨64, 128, 4, by decide, by decide, by decide, by decide, by decide, by decide⟩

/-- "Built container" of section 0, as P1's end state lists its fields. -/
def built : Container :=
  { riffId := 0x46464952, totalSize := 40, waveId := 0x45564157, fmtId := 0x20746D66, fmtSize := 16, fmtTag := 1,
    channels := 1, sampleRate := 8000, byteRate := 16000, blockAlign := 2, bits := 16, dataId := 0x61746164,
    dataSize := 4 }

/-- The format P1 writes before CONSTRUCT. -/
def format : Container :=
  { Container.zero with channels := 1, sampleRate := 8000, byteRate := 16000, blockAlign := 2, bits := 16,
                        dataSize := 4 }

/-- PAY[0..4) = 01 02 03 04. -/
def payload : Memory := [(0, 1), (1, 2), (2, 3), (3, 4)]

/-- Consecutive bytes as a memory. -/
def memoryOf : Nat → List Byte → Memory
  | _, [] => []
  | a, b :: bs => (a, b) :: memoryOf (a + 1) bs

/-- The 48-byte image P1 lists. -/
def image : List Byte :=
  [0x52, 0x49, 0x46, 0x46, 0x28, 0x00, 0x00, 0x00, 0x57, 0x41, 0x56, 0x45, 0x66, 0x6D, 0x74, 0x20] ++
  [0x10, 0x00, 0x00, 0x00, 0x01, 0x00, 0x01, 0x00, 0x40, 0x1F, 0x00, 0x00, 0x80, 0x3E, 0x00, 0x00] ++
  [0x02, 0x00, 0x10, 0x00, 0x64, 0x61, 0x74, 0x61, 0x04, 0x00, 0x00, 0x00, 0x01, 0x02, 0x03, 0x04]

/-- A built container is present; the codec command with opcode `op` waits for its EXEC step. -/
def pending (op : Byte) : State :=
  { inPhase .exec .engine with pendOp := op, c := built, pay := payload, cpres := true }

/-- DECODE waits for its EXEC step with BUF_LEN = `len`; BUF holds `n` at 40 and 0 at 41, 42, 43. -/
def decoding (len : Word) (n : Byte) : State :=
  { inPhase .exec .engine with
    pendOp := 0x01, bufLen := len, buf := [(40, n), (41, 0), (42, 0), (43, 0)] }

/-- The next events of a state. -/
def withEvents (s : State) (es : List Event) : State := { s with events := es }

/-- A field of the state an outcome goes on in. -/
def field {α : Type} (o : Host.Outcome State Fault Refusal) (f : State → α) : Option α :=
  match o with
  | .next t => some (f t)
  | .fault _ => none
  | .refused _ => none

/-- A byte of PAY or BUF that was written. -/
def written (m : Memory) (a : Nat) : Option Byte := Memory.lookup m a

/-- A META frame's bytes with declared length `n` (section 0: `M(n)`). -/
def metaFrameBytes (n : Byte) : List Byte :=
  [0x01, 0x00, 0x12, 0x00, 0x01, 0x00, 0x40, 0x1F, 0x00, 0x00, 0x80, 0x3E, 0x00, 0x00, 0x02, 0x00, 0x10, 0x00,
   n, 0x00, 0x00, 0x00]

/-! ## WellFormed: the one check, and an ill-formed term it refuses (R69) -/

theorem wellFormed_of_zeros (n : Nat) :
    (Instr.chunkFrame (List.replicate n 0)).WellFormed = decide (n ≤ 5120) := by
  show decide ((List.replicate n (0 : Byte)).length ≤ 5120) = _
  rw [List.length_replicate]

theorem test_chunk_of_5121_bytes_is_ill_formed : (Instr.chunkFrame (List.replicate 5121 0)).WellFormed = false :=
  wellFormed_of_zeros 5121

theorem test_chunk_of_5120_bytes_is_well_formed : (Instr.chunkFrame (List.replicate 5120 0)).WellFormed = true :=
  wellFormed_of_zeros 5120

/-! ## Decoding, on words written out from 30_encoding.md -/

theorem test_decodes_decode : decode .cmd [0x01, 0x00, 0x00, 0x00] = .ok .decode := by decide

theorem test_decodes_validate : decode .cmd [0x02, 0x00, 0x00, 0x00] = .ok .validate := by decide

theorem test_decodes_encode : decode .cmd [0x03, 0x00, 0x00, 0x00] = .ok .encode := by decide

theorem test_decodes_construct : decode .cmd [0x04, 0x00, 0x00, 0x00] = .ok .construct := by decide

theorem test_decodes_send : decode .cmd [0x05, 0x00, 0x00, 0x00] = .ok .send := by decide

theorem test_decodes_receive : decode .cmd [0x06, 0x00, 0x00, 0x00] = .ok .receive := by decide

theorem test_decodes_abort : decode .cmd [0x07, 0x00, 0x00, 0x00] = .ok .abort := by decide

/-- P3's META frame. -/
theorem test_decodes_meta : decode .channel (metaFrameBytes 10) = .ok (.metaFrame 1 8000 16000 2 16 10) := by decide

/-- P3's last CHUNK. -/
theorem test_decodes_chunk :
    decode .channel [0x02, 0x00, 0x02, 0x00, 0x18, 0x19] = .ok (.chunkFrame [0x18, 0x19]) := by decide

theorem test_decodes_end : decode .channel [0x03, 0x00, 0x00, 0x00] = .ok .endFrame := by decide

/-- DSP-1, DSP-2, DSP-3, DSP-4, DSP-5. -/
theorem test_illegal_words :
    [0x00000000, 0x00000008, 0x000000FF, 0x00000101, 0xFFFFFFFF].map decodeCommand =
      List.replicate 5 (.reject .illegalCommand) := by decide

/-- RX-10, RX-6, RX-9, RX-7, RX-11. -/
theorem test_malformed_frames :
    decode .channel [0x02, 0x00, 0x00] = .reject .shortFrame ∧
    decode .channel [0x02, 0x01, 0x01, 0x00, 0x09] = .reject .frameReserved ∧
    decode .channel [0x04, 0x00, 0x00, 0x00] = .reject .frameType ∧
    decode .channel [0x02, 0x00, 0x02, 0x00, 0x09] = .reject .frameLength ∧
    decode .channel [0x03, 0x00, 0x01, 0x00, 0x00] = .reject .frameBound := by decide

/-- R71: an empty CHUNK is a frame. -/
theorem test_decodes_empty_chunk : decode .channel [0x02, 0x00, 0x00, 0x00] = .ok (.chunkFrame []) := by decide

/-- The encoder writes P3's META frame. -/
theorem test_encodes_meta : encode (.metaFrame 1 8000 16000 2 16 10) = metaFrameBytes 10 := by decide

/-- Rows of spec/opcode_table.json: a command, and META with every operand bit 0. -/
theorem test_table_words :
    decodeTableWord 32 0x00000005 = some .send ∧ decodeTableWord 32 0x00120001 = some (.metaFrame 0 0 0 0 0 0) ∧
    decodeTableWord 16 0x0002 = some (.chunkFrame []) ∧ decodeTableWord 32 0x00000101 = none := by decide

/-- The next step runs what `withFetchWord` placed. -/
theorem test_withFetchWord_command :
    field (step (State.reset.withFetchWord 32 0x00000006)) (fun t => t.statusWord) = some 0x005 := by decide

theorem test_withFetchWord_frame :
    field (step (State.reset.withFetchWord 32 0x00120001)) (fun t => t.statusWord) = some 0x007 := by decide

/-! ## DECODE -/

/-- DEC-6: N ≤ L - 44 holds, but N > PAY_BYTES. -/
theorem test_decode_capacity :
    field (exec .decode (decoding 124 80)) (fun t => (t.statusWord, t.err)) = some (0x030, .capacity) := by decide

/-- DEC-9. -/
theorem test_decode_image :
    field (exec .decode { inPhase .exec .engine with pendOp := 0x01, bufLen := 48, buf := memoryOf 0 image })
      (fun t => (t.statusWord, t.c, t.pay)) = some (0x050, built, payload) := by decide

/-! ## VALIDATE -/

/-- VAL-9. -/
theorem test_validate_format_size_18 :
    field (exec .validate { pending 0x02 with c := { built with fmtSize := 18, totalSize := 42 } })
      (fun t => (t.statusWord, t.vcheck)) = some (0x1D0, 0x7F) := by decide

/-- VAL-11: the exact product is 2^35, which no 32-bit product shows. -/
theorem test_validate_exact_product :
    field (exec .validate { pending 0x02 with
        c := { built with channels := 2, sampleRate := 0x20000000, bits := 32, byteRate := 0, blockAlign := 8 } })
      (fun t => (t.statusWord, t.vcheck)) = some (0x0D0, 0x6F) := by decide

/-! ## ENCODE -/

/-- ENC-3: the layout governs, not C_TOTAL_SIZE. -/
theorem test_encode_ignores_total_size :
    field (exec .encode { pending 0x03 with c := { built with totalSize := 1000 } })
      (fun t => (t.statusWord, t.bufLen, [4, 5, 6, 7, 47].map (written t.buf), written t.buf 48)) =
      some (0x050, 48, [some 0xE8, some 0x03, some 0x00, some 0x00, some 0x04], none) := by decide

/-- ENC-2. -/
theorem test_encode_capacity :
    field (exec .encode { pending 0x03 with c := { built with dataSize := 65 } })
      (fun t => (t.statusWord, t.err, t.bufLen)) = some (0x070, .capacity, 0) := by decide

/-! ## CONSTRUCT -/

/-- CON-4: host values of the magic fields, the tag and the total are overwritten. -/
theorem test_construct_overwrites :
    field (exec .construct { inPhase .exec .engine with
        pendOp := 0x04, c := { format with riffId := 7, fmtTag := 9, totalSize := 9 } })
      (fun t => (t.statusWord, t.c)) = some (0x050, built) := by decide

/-- CON-3. -/
theorem test_construct_capacity :
    field (exec .construct { inPhase .exec .engine with pendOp := 0x04, c := { format with dataSize := 65 } })
      (fun t => (t.statusWord, t.err, t.c.riffId, t.c.totalSize)) = some (0x030, .capacity, 0, 0) := by decide

/-! ## SEND -/

/-- TX-4's second and last CHUNK. -/
theorem test_send_last_chunk :
    field (exec .send { inPhase .txChunks (.answer .ok) with
        cfg := smallFragments, cpres := true, txN := 8, xferBytes := 4, xferFrags := 1,
        pay := memoryOf 0 [1, 2, 3, 4, 5, 6, 7, 8] })
      (fun t => (t.statusWord, t.xferBytes, t.xferFrags, t.emitted)) =
      some (0x04D, 8, 2, [.frame [0x02, 0x00, 0x04, 0x00, 5, 6, 7, 8] .ok]) := by decide

/-- TX-6. -/
theorem test_send_meta_fails :
    field (exec .send { inPhase .txMeta (.answer .fail) with cpres := true, c := { built with dataSize := 10 }, txN := 10 })
      (fun t => (t.statusWord, t.err, t.xferBytes, t.emitted)) =
      some (0x070, .protoTransportFailure, 0, [.frame (metaFrameBytes 10) .fail]) := by decide

/-! ## RECEIVE -/

/-- P4 after line 1, but from a container present and a failed command before (R75, R103). -/
theorem test_receive_accepted :
    field (exec .receive { inPhase .idle .host with
        done := true, failed := true, err := .capacity, cpres := true, rxDeclLen := 65, xferBytes := 5 })
      (fun t => (t.statusWord, t.err, t.rxDeclLen, t.xferBytes)) = some (0x005, .none, 0, 0) := by decide

/-- DSP-7's rule (R76), for RECEIVE: dropped, CMD_OVERRUN set. -/
theorem test_receive_while_busy :
    field (exec .receive { inPhase .exec .host with cpres := true }) (fun t => t.statusWord) = some 0x443 := by decide

/-! ## ABORT -/

/-- DSP-11. -/
theorem test_abort_idle :
    field (exec .abort { inPhase .idle .host with
        done := true, cpres := true, vdone := true, valid := true, cmdOverrun := true, hostConflict := true })
      (fun t => (t.statusWord, t.err)) = some (0x1D0, .none) := by decide

/-- RX-20. -/
theorem test_abort_receiving :
    field (exec .abort (inPhase .rxMeta .host)) (fun t => (t.statusWord, t.err, t.emitted)) =
      some (0x030, .protoTransportFailure, [.rxClose]) := by decide

/-! ## META, CHUNK, END -/

/-- RX-14. -/
theorem test_meta_capacity :
    field (exec (.metaFrame 1 8000 16000 2 16 65) (inPhase .rxMeta .deliver))
      (fun t => (t.statusWord, t.err, t.rxDeclLen, t.emitted)) = some (0x030, .capacity, 65, [.rxClose]) := by decide

/-- P4 after line 2. -/
theorem test_meta_accepted :
    field (exec (.metaFrame 1 8000 16000 2 16 10) (inPhase .rxMeta .deliver))
      (fun t => (t.statusWord, t.rxDeclLen, t.rx)) =
      some (0x007, 10, { ch := 1, sr := 8000, br := 16000, ba := 2, bps := 16 }) := by decide

/-- RX-17: bytes past the declared length are counted and discarded. -/
theorem test_chunk_over_run :
    field (exec (.chunkFrame [1, 2, 3, 4, 5]) { inPhase .rxChunks .deliver with rxDeclLen := 3 })
      (fun t => (t.statusWord, t.xferBytes, t.xferFrags, t.pay)) = some (0x007, 5, 1, [(0, 1), (1, 2), (2, 3)]) := by
  decide

/-- RX-2. -/
theorem test_chunk_before_meta :
    field (exec (.chunkFrame [1]) (inPhase .rxMeta .deliver)) (fun t => (t.statusWord, t.err, t.emitted)) =
      some (0x030, .protoNoMetadata, [.rxClose]) := by decide

/-- P5 after line 5. -/
theorem test_end_under_run :
    field (exec .endFrame { inPhase .rxChunks .deliver with rxDeclLen := 8, xferBytes := 5, xferFrags := 1 })
      (fun t => (t.statusWord, t.c.dataSize, t.c.totalSize)) = some (0x250, 8, 44) := by decide

/-- RX-1. -/
theorem test_end_before_meta :
    field (exec .endFrame (inPhase .rxMeta .deliver)) (fun t => (t.statusWord, t.err)) =
      some (0x030, .protoNoMetadata) := by decide

/-! ## The Host's window -/

/-- DSP-14. -/
theorem test_half_register_is_masked :
    field (step (withEvents State.reset [.host (.write .reg .w32 0x30 0x00012345)])) (fun t => t.readRegAt 0x30) =
      some 0x00002345 := by decide

/-- DSP-16, DSP-17. -/
theorem test_bus_errors :
    step (withEvents State.reset [.host (.read .reg .w16 0x08)]) = .fault .busError ∧
    step (withEvents State.reset [.host (.write .pay .w32 2 0)]) = .fault .busError := ⟨rfl, rfl⟩

/-- R47, R48: an access of another width, 64 bits say, is a bus error, at offsets that a 32-bit access may take. -/
theorem test_another_width_is_a_bus_error :
    step (withEvents State.reset [.host (.read .reg .other 0x08)]) = .fault .busError ∧
    step (withEvents State.reset [.host (.write .reg .other 0x04 1)]) = .fault .busError ∧
    step (withEvents State.reset [.host (.read .buf .other 0)]) = .fault .busError ∧
    step (withEvents State.reset [.host (.write .pay .other 0 0)]) = .fault .busError := ⟨rfl, rfl, rfl, rfl⟩

/-- DSP-18. -/
theorem test_memory_is_little_endian :
    field (step { withEvents State.reset [.host (.read .buf .w8 0)] with
        buf := Memory.write [] 0 (bytesOfWord .w32 0x46464952) })
      (fun t => t.hostData) = some (some 0x52) := by decide

/-- R53: no memory is listed at reset, and the form holds. -/
theorem test_reset_memory_is_canonical :
    Memory.wf State.reset.buf = true ∧ Memory.wf State.reset.pay = true := by decide

/-- RST-2: reset writes neither memory. -/
theorem test_reset_keeps_memory :
    field (step { withEvents (pending 0x02) [.reset] with done := true }) (fun t => (t.statusWord, t.c, t.pay)) =
      some (0, Container.zero, payload) := by decide

/-! ## Witnesses: for each statement with hypotheses, states and operands that meet them, clause by clause -/

/-- A reception in RX_CHUNKS in which every field of the invariant says something. -/
def receiving : State :=
  { inPhase .rxChunks .deliver with rxDeclLen := 64, xferBytes := 2, xferFrags := 1, pay := [(0, 1), (1, 2)] }

theorem receiving_inv : receiving.Inv := by constructor <;> decide

/-- A validated container, VALIDATE pending again. -/
def revalidating : State := { pending 0x02 with vdone := true, valid := true, vcheck := 0x7F }

theorem revalidating_inv : revalidating.Inv := by constructor <;> decide

theorem witness_DecodeOfEncodeIsTheInstruction :
    (Instr.chunkFrame (List.replicate 5120 0)).WellFormed = true ∧
    (Instr.metaFrame 0xFFFF 0xFFFFFFFF 0 1 2 0xFFFFFFFF).WellFormed = true :=
  ⟨test_chunk_of_5120_bytes_is_well_formed, rfl⟩

theorem witness_EncodeOfDecodedBytesGivesThemBack :
    decode .channel [0x02, 0x00, 0x02, 0x00, 0x18, 0x19] = .ok (.chunkFrame [0x18, 0x19]) ∧
    decode .cmd [0x07, 0x00, 0x00, 0x00] = .ok .abort := by decide

theorem witness_FramesAreWellFormedOrMalformed :
    (let s := { inPhase .rxMeta .host with events := [.deliver], rxq := [.frame [0x03, 0x00, 0x01, 0x00, 0x00]] }
     (s.phase = .rxMeta ∨ s.phase = .rxChunks) ∧ s.events = .deliver :: [] ∧
       s.rxq = .frame [0x03, 0x00, 0x01, 0x00, 0x00] :: [] ∧ ¬ FrameOK [0x03, 0x00, 0x01, 0x00, 0x00]) ∧
    (let s := { inPhase .rxChunks .host with events := [.deliver], rxq := [.frame [0x02, 0x00, 0x00]] }
     (s.phase = .rxMeta ∨ s.phase = .rxChunks) ∧ s.events = .deliver :: [] ∧
       s.rxq = .frame [0x02, 0x00, 0x00] :: [] ∧ ¬ FrameOK [0x02, 0x00, 0x00]) := by
  unfold FrameOK
  decide

theorem witness_StepRunsTheDecodedInstruction :
    (HostNext (withEvents State.reset [cmdWrite 7]) (.write .reg .w32 0x04 7) [] ∧
      decode .cmd (bytes32 7) = .ok .abort) ∧
    (decode .cmd (bytes32 ((pending 0x03).pendOp.setWidth 32)) = .ok .encode ∧ (pending 0x03).phase = .exec ∧
      (withEvents (pending 0x03) [.engine]).events = .engine :: [] ∧ (pending 0x03).events = []) ∧
    ((withEvents (inPhase .txEnd .host) [.answer .fail]).phase = .txEnd ∧
      (withEvents (inPhase .txEnd .host) [.answer .fail]).events = .answer .fail :: []) ∧
    (let s := { receiving with events := [.deliver], rxq := [.frame [0x03, 0x00, 0x00, 0x00]] }
     (s.phase = .rxMeta ∨ s.phase = .rxChunks) ∧ s.events = .deliver :: [] ∧
       s.rxq = .frame [0x03, 0x00, 0x00, 0x00] :: [] ∧
       decode .channel [0x03, 0x00, 0x00, 0x00] = .ok .endFrame) := by
  unfold HostNext
  decide

theorem witness_ParametersOutsideTheirConstraintsAreRejected :
    Config.ofParams 1 45 1 = some ⟨1, 45, 1, by decide, by decide, by decide, by decide, by decide, by decide⟩ := rfl

theorem witness_StepKeepsTheInvariant :
    receiving.Inv ∧ ∃ t, step (withEvents receiving [.deliver]) = .next t := ⟨receiving_inv, _, rfl⟩

theorem witness_GoodStatesStopOnlyAtABusError :
    receiving.Inv ∧ receiving.HostBehaves ∧
    (∃ s : State, s.Inv ∧ ¬ s.HostBehaves) := by
  refine ⟨receiving_inv, (fun x h => by cases h),
    withEvents receiving [.host (.read .pay .w32 62)], ⟨?_, ?_⟩⟩
  · constructor <;> decide
  · intro h
    have h2 : Width.w32 ≠ .other ∧ 62 % 4 = 0 ∧ _ := h (.read .pay .w32 62) rfl
    exact absurd h2.2.1 (by decide)

theorem witness_BusErrorExactlyOnIllegalAccess :
    HostNext (withEvents State.reset [.host (.read .reg .w32 0x100)]) (.read .reg .w32 0x100) [] ∧
    HostNext (withEvents State.reset [.host (.read .reg .w32 0xFC)]) (.read .reg .w32 0xFC) [] ∧
    HostNext (withEvents State.reset [.host (.read .reg .other 0)]) (.read .reg .other 0) [] ∧
    HostNext (withEvents State.reset [.host (.write .pay .other 0 0)]) (.write .pay .other 0 0) [] :=
  ⟨rfl, rfl, rfl, rfl⟩

/-- Each way CPRES changes happens. -/
theorem witness_OnlyReplacingCommandsWriteCpres :
    field (step (decoding 44 0)) (fun t => t.cpres) = some true ∧ (decoding 44 0).cpres = false ∧
    field (step { receiving with events := [.deliver], rxq := [.frame [0x03, 0x00, 0x00, 0x00]] })
      (fun t => t.cpres) = some true ∧ receiving.cpres = false ∧
    field (step { inPhase .idle .host with cpres := true, events := [cmdWrite 0x06] }) (fun t => t.cpres) =
      some false := by decide

/-- Each way the counters change happens: SEND starts, RECEIVE, reset, a CHUNK sent, a CHUNK taken. SEND fails and keeps
them. -/
theorem witness_OnlyTransfersWriteTheCounters :
    (let s := { inPhase .idle .host with xferBytes := 5, xferFrags := 1 }
     field (step { s with events := [cmdWrite 0x05] }) (fun t => (t.err, t.xferBytes, t.xferFrags)) =
       some (.noContainer, 5, 1) ∧
     field (step { s with cpres := true, events := [cmdWrite 0x05] })
       (fun t => (t.failed, t.xferBytes, t.xferFrags)) = some (false, 0, 0) ∧
     field (step { s with events := [cmdWrite 0x06] }) (fun t => (t.phase, t.xferBytes, t.xferFrags)) =
       some (.rxMeta, 0, 0) ∧
     field (step { s with events := [.reset] }) (fun t => (t.xferBytes, t.xferFrags)) = some (0, 0)) ∧
    field (step { inPhase .txChunks .host with txN := 8, events := [.answer .ok] })
      (fun t => (t.xferBytes, t.xferFrags)) = some (8, 1) ∧
    field (step { receiving with events := [.deliver], rxq := [.frame [0x02, 0x00, 0x01, 0x00, 7]] })
      (fun t => (t.xferBytes, t.xferFrags)) = some (3, 2) := by decide

theorem witness_StickyBitsStayUntilAcceptance :
    field (step { inPhase .idle .host with cmdOverrun := true, hostConflict := true, events := [cmdWrite 0] })
      (fun t => (t.cmdOverrun, t.hostConflict)) = some (false, false) ∧
    field (step (withEvents receiving [cmdWrite 0])) (fun t => t.cmdOverrun) = some true ∧
    field (step (withEvents receiving [.host (.write .pay .w8 63 0)])) (fun t => t.hostConflict) = some true := by
  decide

theorem witness_ParametersNeverChange : ∃ t, step (withEvents receiving [.reset]) = .next t := ⟨_, rfl⟩

theorem witness_SilentChannelLeavesTheTransferWaiting :
    (∃ t, Transferring receiving ∧ step receiving = .next t ∧ receiving.nextEvent = .engine) ∧
    (∃ t, Transferring (inPhase .txEnd .host) ∧
      step (withEvents (inPhase .txEnd .host) [.host (.write .pay .w8 0 1)]) = .next t) :=
  ⟨⟨_, .inr (.inl rfl), rfl, rfl⟩, ⟨_, .inr (.inr (.inr (.inr rfl))), rfl⟩⟩

theorem witness_DisabledStepsChangeNothing :
    (receiving.phase ≠ .exec ∧ (withEvents receiving [.engine]).events = .engine :: [] ∧ receiving.events = []) ∧
    (receiving.phase ≠ .txMeta ∧ receiving.phase ≠ .txChunks ∧ receiving.phase ≠ .txEnd ∧
      (withEvents receiving [.answer .ok]).events = .answer .ok :: []) ∧
    ((pending 0x01).phase ≠ .rxMeta ∧ (pending 0x01).phase ≠ .rxChunks ∧
      (withEvents (pending 0x01) [.deliver]).events = .deliver :: []) ∧ receiving.rxq = [] := by decide

theorem witness_ExecStepEndsTheCommand :
    revalidating.Inv ∧ revalidating.phase = .exec ∧ revalidating.nextEvent = .engine :=
  ⟨revalidating_inv, rfl, rfl⟩

theorem witness_FailedExecStepWritesOnlyStatus :
    (decoding 43 0).phase = .exec ∧ (decoding 43 0).nextEvent = .engine ∧
    field (step (decoding 43 0)) (fun t => t.failed) = some true := by decide

/-- A state for each clause: illegal words at both ends, every command, SEND with 64 and with 65 bytes. -/
theorem witness_IdleBlockAcceptsACommandWord :
    (inPhase .idle .host).phase = .idle ∧
    (∀ w, HostNext (withEvents State.reset [cmdWrite w]) (.write .reg .w32 0x04 w) []) ∧
    IllegalWord 0 ∧ IllegalWord 8 ∧ IllegalWord 0x101 ∧ IllegalWord 0xFFFFFFFF ∧
    (let s := { inPhase .idle .host with cpres := true, c := { built with dataSize := 65 } }
     s.cpres = true ∧ s.cfg.payBytes < s.c.dataSize.toNat) ∧
    (let s := { inPhase .idle .host with cpres := true, c := { built with dataSize := 64 } }
     s.cpres = true ∧ s.c.dataSize.toNat ≤ s.cfg.payBytes) := by
  unfold IllegalWord
  exact ⟨rfl, fun _ => rfl, by decide⟩

theorem witness_BusyBlockDropsACommandWord :
    receiving.phase ≠ .idle ∧ (∀ w, HostNext (withEvents receiving [cmdWrite w]) (.write .reg .w32 0x04 w) []) ∧
    ¬ ((8 : Word) = 0x07 ∧ Transferring receiving) ∧ ¬ ((7 : Word) = 0x07 ∧ Transferring (pending 0x02)) ∧
    Transferring receiving := by
  unfold Transferring
  exact ⟨by decide, fun _ => rfl, by decide⟩

theorem witness_IllegalWordIsABadCommand :
    State.reset.phase = .idle ∧ HostNext (withEvents State.reset [cmdWrite 8]) (.write .reg .w32 0x04 8) [] ∧
    IllegalWord 8 ∧ IllegalWord 0 := by
  unfold IllegalWord
  exact ⟨rfl, rfl, by decide⟩

theorem witness_AbortEndsATransferOrClearsStatus :
    ∀ ph : Phase, (inPhase ph .host).turn = .host ∧ (inPhase ph .host).phase = ph := fun _ => ⟨rfl, rfl⟩

/-- Each outcome of DECODE at the length where it begins: 129, 43, 44 with N = 1, 109 with N = 65, 108 with N = 64. -/
theorem witness_DecodeParsesTheImage :
    PresentedIdle (inPhase .idle .host) ∧ AtExecStep 0x01 (decoding 129 0) ∧
    (decoding 129 0).cfg.bufBytes < (decoding 129 0).bufLen.toNat ∧
    (decoding 43 0).bufLen.toNat < 44 ∧
    (44 ≤ (decoding 44 1).bufLen.toNat ∧
      (decoding 44 1).bufLen.toNat - 44 < (le32 ((decoding 44 1).readBuf 40 4) 0).toNat) ∧
    ((le32 ((decoding 109 65).readBuf 40 4) 0).toNat ≤ (decoding 109 65).bufLen.toNat - 44 ∧
      (decoding 109 65).cfg.payBytes < (le32 ((decoding 109 65).readBuf 40 4) 0).toNat) ∧
    ((le32 ((decoding 108 64).readBuf 40 4) 0).toNat ≤ (decoding 108 64).bufLen.toNat - 44 ∧
      (le32 ((decoding 108 64).readBuf 40 4) 0).toNat ≤ (decoding 108 64).cfg.payBytes) := by
  unfold PresentedIdle AtExecStep
  decide

theorem witness_ShortImagesAreTruncated :
    (let s := { inPhase .idle .host with bufLen := 43, events := [cmdWrite 0x01, .engine] }
     s.phase = .idle ∧ s.events = cmdWrite 0x01 :: .engine :: [] ∧ s.bufLen.toNat < 44 ∧
       s.bufLen.toNat ≤ s.cfg.bufBytes) := by decide

theorem witness_ValidateEvaluatesTheSevenChecks :
    PresentedIdle (inPhase .idle .host) ∧ AtExecStep 0x02 (pending 0x02) ∧ (pending 0x02).cpres = true ∧
    AtExecStep 0x02 { pending 0x02 with cpres := false } := by
  unfold PresentedIdle AtExecStep
  decide

theorem witness_ValidateIgnoresTagPayloadAndCounts :
    (let s := { pending 0x02 with c := { built with fmtSize := 18, totalSize := 42 } }
     AtExecStep 0x02 s ∧ s.cpres = true ∧ s.c.fmtSize = 18 ∧ s.c.totalSize.toNat = 38 + s.c.dataSize.toNat) := by
  unfold AtExecStep
  decide

theorem witness_EncodeSerializesTheContainer :
    PresentedIdle (inPhase .idle .host) ∧ AtExecStep 0x03 { pending 0x03 with cpres := false } ∧
    (let s := { pending 0x03 with c := { built with dataSize := 65 } }
     AtExecStep 0x03 s ∧ s.cpres = true ∧ s.cfg.payBytes < s.c.dataSize.toNat) ∧
    (let s := { pending 0x03 with c := { built with dataSize := 64 } }
     AtExecStep 0x03 s ∧ s.cpres = true ∧ s.c.dataSize.toNat ≤ s.cfg.payBytes) := by
  unfold PresentedIdle AtExecStep
  decide

theorem witness_ConstructAssemblesTheContainer :
    PresentedIdle (inPhase .idle .host) ∧
    (let s := { pending 0x04 with c := { format with dataSize := 65 } }
     AtExecStep 0x04 s ∧ s.cfg.payBytes < s.c.dataSize.toNat) ∧
    (let s := { pending 0x04 with c := { format with dataSize := 64 } }
     AtExecStep 0x04 s ∧ s.c.dataSize.toNat ≤ s.cfg.payBytes) := by
  unfold PresentedIdle AtExecStep
  decide

theorem witness_ConstructedContainersPassFiveChecks :
    (let s := { inPhase .idle .host with
       c := { format with dataSize := 64 }, events := [cmdWrite 0x04, .engine, cmdWrite 0x02, .engine] }
     s.phase = .idle ∧ s.c.dataSize.toNat ≤ s.cfg.payBytes ∧
       s.events = cmdWrite 0x04 :: .engine :: cmdWrite 0x02 :: .engine :: []) := by decide

theorem witness_EncodeThenDecodeIsARoundTrip :
    (let s := { inPhase .idle .host with
       c := { built with dataSize := 64 }, cpres := true, events := [cmdWrite 0x03, .engine, cmdWrite 0x01, .engine] }
     s.phase = .idle ∧ s.cpres = true ∧ s.c.dataSize.toNat ≤ s.cfg.payBytes ∧
       s.events = cmdWrite 0x03 :: .engine :: cmdWrite 0x01 :: .engine :: []) := by decide

theorem witness_SendStartsWithThePresentContainer :
    PresentedIdle (inPhase .idle .host) ∧ (inPhase .idle .host).cpres = false ∧
    (let s := { inPhase .idle .host with cpres := true, c := { built with dataSize := 65 } }
     PresentedIdle s ∧ s.cpres = true ∧ s.cfg.payBytes < s.c.dataSize.toNat) ∧
    (let s := { inPhase .idle .host with cpres := true, c := { built with dataSize := 64 } }
     PresentedIdle s ∧ s.cpres = true ∧ s.c.dataSize.toNat ≤ s.cfg.payBytes) := by
  unfold PresentedIdle
  decide

theorem witness_SendOffersMetaFirst :
    (inPhase .txMeta (.answer .ok)).turn = .answer .ok ∧ (inPhase .txMeta (.answer .ok)).phase = .txMeta :=
  ⟨rfl, rfl⟩

theorem witness_SendOffersTheNextFragment :
    (let s := { inPhase .txChunks (.answer .ok) with txN := 8, xferBytes := 7 }
     s.turn = .answer .ok ∧ s.phase = .txChunks ∧ s.xferBytes.toNat < s.txN.toNat) := by decide

theorem witness_SendEndsWithTheEndFrame :
    (inPhase .txEnd (.answer .ok)).turn = .answer .ok ∧ (inPhase .txEnd (.answer .ok)).phase = .txEnd := ⟨rfl, rfl⟩

theorem witness_SendStopsAtATransmitFailure :
    ∀ ph : Phase, (inPhase ph (.answer .fail)).turn = .answer .fail ∧ (inPhase ph (.answer .fail)).phase = ph :=
  fun _ => ⟨rfl, rfl⟩

/-- TX-4: 8 bytes in fragments of 4 take two CHUNK frames; and an empty payload takes none. -/
theorem witness_SendEmitsTheWholeSequence :
    (let s := { inPhase .idle .host with
       cfg := smallFragments, cpres := true, c := { built with dataSize := 8 },
       events := cmdWrite 0x05 :: List.replicate 4 (.answer .ok) }
     s.phase = .idle ∧ s.cpres = true ∧ s.c.dataSize.toNat ≤ s.cfg.payBytes ∧ fragCount s = 2 ∧
       s.events = cmdWrite 0x05 :: (List.replicate (fragCount s + 2) (.answer .ok) ++ [])) ∧
    (let s := { inPhase .idle .host with
       cpres := true, c := { built with dataSize := 0 }, events := [cmdWrite 0x05, .answer .ok, .answer .ok] }
     fragCount s = 0 ∧ s.events = cmdWrite 0x05 :: (List.replicate (fragCount s + 2) (.answer .ok) ++ [])) := by
  decide

theorem witness_ReceiveStartsEmpty : PresentedIdle (inPhase .idle .host) := ⟨rfl, rfl⟩

theorem witness_MetaStoresTheMetadata :
    (inPhase .rxMeta .deliver).phase = .rxMeta ∧
    (64 : Word).toNat ≤ (inPhase .rxMeta .deliver).cfg.payBytes ∧
    (inPhase .rxMeta .deliver).cfg.payBytes < (65 : Word).toNat := by decide

theorem witness_FirstFrameMustBeMeta : (inPhase .rxMeta .deliver).phase = .rxMeta := rfl

theorem witness_SecondMetaIsMalformed : receiving.phase = .rxChunks := rfl

/-- Offsets inside and outside the declared length, at its end. -/
theorem witness_ChunkLandsAtTheNextFreeOffset :
    (let s := { receiving with rxDeclLen := 3 }
     s.phase = .rxChunks ∧ s.xferBytes.toNat + 0 < s.rxDeclLen.toNat ∧
       ¬ (s.xferBytes.toNat ≤ 3 ∧ 3 < s.xferBytes.toNat + 5 ∧ 3 < s.rxDeclLen.toNat)) := by decide

theorem witness_EndBuildsTheContainer :
    receiving.phase = .rxChunks ∧ receiving.rxDeclLen.toNat ≤ receiving.cfg.payBytes := by decide

theorem witness_LinkErrorFailsTheReception :
    (let s := { receiving with events := [.deliver], rxq := [.linkError] }
     (s.phase = .rxMeta ∨ s.phase = .rxChunks) ∧ s.events = .deliver :: [] ∧ s.rxq = .linkError :: []) := by decide

theorem witness_LinkErrorAfterMetaGivesNoContainer :
    (let s := { inPhase .idle .host with
       events := [cmdWrite 0x06, .deliver, .deliver], rxq := [.frame (metaFrameBytes 64), .linkError] }
     s.phase = .idle ∧ s.events = cmdWrite 0x06 :: .deliver :: .deliver :: [] ∧
       s.rxq = .frame (metaFrameBytes 64) :: .linkError :: [] ∧
       decode .channel (metaFrameBytes 64) = .ok (.metaFrame 1 8000 16000 2 16 64) ∧
       (64 : Word).toNat ≤ s.cfg.payBytes) := by decide

/-- Instance A sends 8 bytes in fragments of 4; instance B, of other parameters, receives. -/
theorem witness_ReceiveReassemblesWhatSendSent :
    ∃ a b : State, a.cpres = true ∧ a.c.dataSize.toNat ≤ a.cfg.payBytes ∧ a.c.dataSize.toNat ≤ b.cfg.payBytes ∧
      b.phase = .idle ∧ b.rxq = (transmitSequence a).map .frame ++ [] ∧
      b.events = cmdWrite 0x06 :: (List.replicate (fragCount a + 2) .deliver ++ []) ∧ fragCount a = 2 ∧
      a.c.isValid = true ∧ a.c.fmtSize = 16 ∧ a.c.fmtTag = 1 := by
  let a : State := { inPhase .idle .host with
    cfg := smallFragments, cpres := true, c := { built with dataSize := 8, totalSize := 44 } }
  refine ⟨a, { inPhase .idle .host with
    rxq := (transmitSequence a).map .frame, events := cmdWrite 0x06 :: List.replicate 4 .deliver }, ?_⟩
  exact ⟨rfl, by decide, by decide, rfl, by simp, by decide, by decide, by decide, rfl, rfl⟩

theorem witness_RegistersReadAtTheirOffsets :
    HostNext (withEvents receiving [.host (.read .reg .w32 0xFC)]) (.read .reg .w32 0xFC) [] ∧
    HostNext (withEvents receiving [.host (.read .reg .w32 0x64)]) (.read .reg .w32 0x64) [] := ⟨rfl, rfl⟩

theorem witness_HostReadsHaveNoSideEffect :
    HostNext (withEvents receiving [.host (.read .pay .w8 63)]) (.read .pay .w8 63) [] ∧
    (Access.read .pay .w8 63).Legal receiving.cfg := ⟨rfl, by decide, by decide, by decide⟩

theorem witness_MemoryReadsAreLittleEndian :
    HostNext (withEvents receiving [.host (.read .buf .w32 124)]) (.read .buf .w32 124) [] ∧
    (Access.read .buf .w32 124).Legal receiving.cfg ∧
    HostNext (withEvents receiving [.host (.read .pay .w16 62)]) (.read .pay .w16 62) [] ∧
    (Access.read .pay .w16 62).Legal receiving.cfg :=
  ⟨rfl, ⟨by decide, by decide, by decide⟩, rfl, ⟨by decide, by decide, by decide⟩⟩

theorem witness_IdleMemoryWritesStoreTheirBytes :
    State.reset.phase = .idle ∧
    HostNext (withEvents State.reset [.host (.write .buf .w32 124 7)]) (.write .buf .w32 124 7) [] ∧
    (Access.write .buf .w32 124 7).Legal State.reset.cfg ∧
    HostNext (withEvents State.reset [.host (.write .pay .w8 63 7)]) (.write .pay .w8 63 7) [] ∧
    (Access.write .pay .w8 63 7).Legal State.reset.cfg :=
  ⟨rfl, rfl, ⟨by decide, by decide, by decide⟩, rfl, ⟨by decide, by decide, by decide⟩⟩

theorem witness_BusyWritesAreDropped :
    receiving.phase ≠ .idle ∧
    HostNext (withEvents receiving [.host (.write .reg .w32 0x48 1)]) (.write .reg .w32 0x48 1) [] ∧
    (Access.write .reg .w32 0x48 1).Legal receiving.cfg ∧ IsFieldOffset 0x48 ∧ IsFieldOffset 0x18 :=
  ⟨by decide, rfl, ⟨rfl, by decide, by decide⟩, by unfold IsFieldOffset; decide, by unfold IsFieldOffset; decide⟩

theorem witness_ReadOnlyAndReservedWritesAreIgnored :
    HostNext (withEvents receiving [.host (.write .reg .w32 0xFC 1)]) (.write .reg .w32 0xFC 1) [] ∧
    0xFC % 4 = 0 ∧ ¬ IsFieldOffset 0xFC ∧ ¬ IsFieldOffset 0x4C ∧ ¬ IsFieldOffset 0x10 := by
  unfold IsFieldOffset
  exact ⟨rfl, by decide⟩

theorem witness_FieldWritesStoreAndInvalidate :
    State.reset.phase = .idle ∧
    HostNext (withEvents State.reset [.host (.write .reg .w32 0x40 0x12345)]) (.write .reg .w32 0x40 0x12345) [] ∧
    IsFieldOffset 0x40 ∧ IsHalfOffset 0x40 ∧ IsFieldOffset 0x18 ∧ ¬ IsHalfOffset 0x18 := by
  unfold IsFieldOffset IsHalfOffset
  exact ⟨rfl, rfl, by decide⟩

theorem witness_BufLenTakesAnyValue :
    State.reset.phase = .idle ∧
    HostNext (withEvents State.reset [.host (.write .reg .w32 0x14 0xFFFFFFFF)])
      (.write .reg .w32 0x14 0xFFFFFFFF) [] := ⟨rfl, rfl⟩

theorem witness_ResetRestoresEveryRegister : (withEvents receiving [.reset]).events = .reset :: [] := rfl

theorem witness_RegistersAfterPowerUp :
    0xFC % 4 = 0 ∧ 0xFC < 0x100 ∧ 0x60 % 4 = 0 ∧ 0x04 % 4 = 0 := by decide

end Sys2Proof.Tests
end

/-! ## The scope (00_scope.md): which parameters make a configuration (R8, R9) -/

namespace Sys2Proof

/-- `Config.ofParams` accepts exactly the parameters of a configuration: R9's constraints are fields of `Config`, so
whatever configuration it answers has met them, and none that meets them is turned away. -/
theorem Config.ofParams_eq_some_iff (pay buf frag : Nat) (cfg : Config) :
    Config.ofParams pay buf frag = some cfg ↔
      cfg.payBytes = pay ∧ cfg.bufBytes = buf ∧ cfg.fragMax = frag := by
  constructor
  · intro h
    unfold Config.ofParams at h
    split at h
    next => cases h; exact ⟨rfl, rfl, rfl⟩
    next => cases h
  · rintro ⟨rfl, rfl, rfl⟩
    exact dif_pos ⟨⟨cfg.pay_pos, cfg.pay_le⟩, ⟨cfg.buf_ge, cfg.buf_le⟩, cfg.frag_pos, cfg.frag_le⟩

/-- Settles O8: both halves read `Config.ofParams_eq_some_iff`, and R9's bounds are the fields of `Config`. -/
theorem parametersOutsideTheirConstraintsAreRejected :
    Obligations.ParametersOutsideTheirConstraintsAreRejected := by
  intro pay buf frag
  refine ⟨⟨?accepted_meets, ?meets_accepted⟩, fun cfg => (Config.ofParams_eq_some_iff pay buf frag cfg).mp⟩
  case accepted_meets =>
    rintro ⟨cfg, hcfg⟩
    obtain ⟨rfl, rfl, rfl⟩ := (Config.ofParams_eq_some_iff pay buf frag cfg).mp hcfg
    exact ⟨⟨cfg.pay_pos, cfg.pay_le⟩, ⟨cfg.buf_ge, cfg.buf_le⟩, cfg.frag_pos, cfg.frag_le⟩
  case meets_accepted =>
    rintro ⟨⟨hpayPos, hpayLe⟩, ⟨hbufGe, hbufLe⟩, hfragPos, hfragLe⟩
    exact ⟨⟨pay, buf, frag, hpayPos, hpayLe, hbufGe, hbufLe, hfragPos, hfragLe⟩,
      (Config.ofParams_eq_some_iff ..).mpr ⟨rfl, rfl, rfl⟩⟩

end Sys2Proof

/-! ## What one step makes of the state, rule by rule

`Took` says which instruction a step runs; `Effect` goes on to what that instruction does there, each outcome as the
named operations that make it. What a step keeps is then read off the cases, without unfolding the machine. -/

namespace Sys2Proof.Machine

/-- The outcomes of a step that goes on, in the order of the agents: the Host's accesses, its command words, the EXEC
step, the Channel's answers, its deliveries, reset, and the steps that are not enabled. Failures that differ only in
their error code or in what they emit are one case. -/
inductive Effect (s t : State) : Prop where
  | read (sp : Space) (w : Width) (a : Nat) (d : Option Word) (he : s.nextEvent = .host (.read sp w a))
      (ht : t = { s.begin with hostData := d })
  | ignored (a : Nat) (v : Word) (he : s.nextEvent = .host (.write .reg .w32 a v)) (ha : a ≠ 0x04) (ht : t = s.begin)
  | conflict (sp : Space) (w : Width) (a : Nat) (v : Word) (he : s.nextEvent = .host (.write sp w a v))
      (ha : sp = .reg → a ≠ 0x04) (hp : s.phase ≠ .idle) (ht : t = s.begin.flagConflict)
  | bufLenWrite (a : Nat) (v : Word) (he : s.nextEvent = .host (.write .reg .w32 a v)) (ha : a ≠ 0x04)
      (hp : s.phase = .idle) (ht : t = { s.begin with bufLen := v })
  | fieldWrite (a : Nat) (v : Word) (r : Reg) (c : Container) (he : s.nextEvent = .host (.write .reg .w32 a v))
      (ha : a ≠ 0x04) (hp : s.phase = .idle) (hc : s.c.put r v = some c)
      (ht : t = { s.begin with c := c }.clearValidation)
  | bufWrite (w : Width) (a : Nat) (v : Word) (he : s.nextEvent = .host (.write .buf w a v))
      (hl : a + w.bytes ≤ s.cfg.bufBytes) (hp : s.phase = .idle) (ht : t = s.begin.writeBuf a (bytesOfWord w v))
  | payWrite (w : Width) (a : Nat) (v : Word) (he : s.nextEvent = .host (.write .pay w a v))
      (hl : a + w.bytes ≤ s.cfg.payBytes) (hp : s.phase = .idle) (ht : t = s.begin.writePay a (bytesOfWord w v))
  | replacingAccepted (v : Word) (op : Byte) (he : s.nextEvent = cmdWrite v) (hp : s.phase = .idle)
      (hv : (v = 0x01 ∧ op = 0x01) ∨ (v = 0x04 ∧ op = 0x04)) (ht : t = s.begin.accept.discardContainer.pend op)
  | readingAccepted (v : Word) (op : Byte) (he : s.nextEvent = cmdWrite v) (hp : s.phase = .idle)
      (hv : (v = 0x02 ∧ op = 0x02) ∨ (v = 0x03 ∧ op = 0x03)) (ht : t = s.begin.accept.pend op)
  | refused (v : Word) (code : ErrCode) (he : s.nextEvent = cmdWrite v) (hp : s.phase = .idle) (hc : code ≠ .none)
      (ht : t = s.begin.accept.fail code)
  | sendStarted (he : s.nextEvent = cmdWrite 0x05) (hp : s.phase = .idle) (hc : s.cpres = true)
      (hn : s.c.dataSize.toNat ≤ s.cfg.payBytes)
      (ht : t = { s.begin.accept.clearCounters with txN := s.c.dataSize, phase := .txMeta })
  | receiveStarted (he : s.nextEvent = cmdWrite 0x06) (hp : s.phase = .idle)
      (ht : t = { s.begin.accept.discardContainer.clearCounters with rxDeclLen := 0, phase := .rxMeta })
  | statusCleared (he : s.nextEvent = cmdWrite 0x07) (hp : s.phase = .idle) (ht : t = s.begin.accept.complete)
  | aborted (e : Emission) (he : s.nextEvent = cmdWrite 0x07) (hp : s.phase ≠ .idle)
      (ht : t = (s.begin.emit e).fail .protoTransportFailure)
  | overrun (v : Word) (he : s.nextEvent = cmdWrite v) (hp : s.phase ≠ .idle) (ht : t = s.begin.flagOverrun)
  | execFailed (code : ErrCode) (he : s.nextEvent = .engine) (hp : s.phase = .exec) (hc : code ≠ .none)
      (ht : t = s.begin.fail code)
  | decoded (n : Nat) (he : s.nextEvent = .engine) (hp : s.phase = .exec) (ho : s.pendOp = 0x01)
      (hn : n ≤ s.cfg.payBytes)
      (ht : t = { s.begin.writePay 0 ((s.begin.readBuf 0 (hdrBytes + n)).drop hdrBytes) with
        c := .parse (s.begin.readBuf 0 (hdrBytes + n)), cpres := true }.complete)
  | validated (he : s.nextEvent = .engine) (hp : s.phase = .exec) (ho : s.pendOp = 0x02) (hc : s.cpres = true)
      (ht : t = { s.begin with vcheck := s.c.checks, valid := s.c.isValid, vdone := true }.complete)
  | encoded (img : List Byte) (he : s.nextEvent = .engine) (hp : s.phase = .exec) (ho : s.pendOp = 0x03)
      (hc : s.cpres = true) (hn : hdrBytes + s.c.dataSize.toNat ≤ s.cfg.bufBytes) (hi : img = s.begin.image)
      (ht : t = { s.begin.writeBuf 0 img with
        bufLen := BitVec.ofNat 32 (hdrBytes + s.c.dataSize.toNat) }.complete)
  | constructed (he : s.nextEvent = .engine) (hp : s.phase = .exec) (ho : s.pendOp = 0x04)
      (ht : t = { s.begin with
        c := constructFields s.c.channels s.c.sampleRate s.c.byteRate s.c.blockAlign s.c.bits s.c.dataSize,
        cpres := true }.complete)
  | unsent (i : Instr) (he : s.nextEvent = .answer .fail) (hp : s.sending = true)
      (ht : t = (s.begin.emit (.frame (encode i) .fail)).fail .protoTransportFailure)
  | metaSent (i : Instr) (he : s.nextEvent = .answer .ok) (hp : s.phase = .txMeta)
      (ht : t = { s.begin.emit (.frame (encode i) .ok) with phase := if s.txN = 0 then .txEnd else .txChunks })
  | chunkSent (i : Instr) (he : s.nextEvent = .answer .ok) (hp : s.phase = .txChunks)
      (ht : t = { s.begin.emit (.frame (encode i) .ok) with
        xferBytes := BitVec.ofNat 32 (s.xferBytes.toNat + s.fragLen), xferFrags := satAdd s.xferFrags 1,
        phase := if s.xferBytes.toNat + s.fragLen = s.txN.toNat then .txEnd else .txChunks })
  | endSent (i : Instr) (he : s.nextEvent = .answer .ok) (hp : s.phase = .txEnd)
      (ht : t = (s.begin.emit (.frame (encode i) .ok)).complete)
  | linkFailed (q : List RxEvent) (he : s.nextEvent = .deliver) (hp : s.receiving = true)
      (ht : t = { s.begin with rxq := q }.fail .protoTransportFailure)
  | frameRefused (q : List RxEvent) (code : ErrCode) (he : s.nextEvent = .deliver) (hp : s.receiving = true)
      (hc : code ≠ .none) (ht : t = ({ s.begin with rxq := q }.emit .rxClose).fail code)
  | metaTooLong (q : List RxEvent) (st : Staging) (len : Word) (he : s.nextEvent = .deliver) (hp : s.phase = .rxMeta)
      (ht : t = ({ s.begin with rxq := q, rx := st, rxDeclLen := len }.emit .rxClose).fail .capacity)
  | metaTaken (q : List RxEvent) (st : Staging) (len : Word) (he : s.nextEvent = .deliver) (hp : s.phase = .rxMeta)
      (hn : len.toNat ≤ s.cfg.payBytes)
      (ht : t = { s.begin with rxq := q, rx := st, rxDeclLen := len, phase := .rxChunks })
  | chunkTaken (f : List Byte) (q : List RxEvent) (body : List Byte) (he : s.nextEvent = .deliver)
      (hp : s.phase = .rxChunks) (hq : s.rxq = .frame f :: q) (hd : decodeFrame f = .ok (.chunkFrame body))
      (ht : t = { s.begin.writePay s.xferBytes.toNat (body.take (s.rxDeclLen.toNat - s.xferBytes.toNat)) with
        rxq := q, xferBytes := satAdd s.xferBytes body.length, xferFrags := satAdd s.xferFrags 1 })
  | endTaken (f : List Byte) (q : List RxEvent) (he : s.nextEvent = .deliver) (hp : s.phase = .rxChunks)
      (hq : s.rxq = .frame f :: q) (hd : decodeFrame f = .ok .endFrame)
      (ht : t = { s.begin with
        rxq := q, sizeMismatch := decide (s.xferBytes ≠ s.rxDeclLen),
        c := constructFields s.rx.ch s.rx.sr s.rx.br s.rx.ba s.rx.bps s.rxDeclLen, cpres := true }.complete)
  | reset (he : s.nextEvent = .reset) (ht : t = s.begin.restart)
  | notEnabled (ht : t = s.begin)

/-- A frame decodes to a frame instruction, never to a command (R69, R72). -/
theorem decodeFrame_ok {f : List Byte} {i : Instr} (h : decodeFrame f = .ok i) :
    (∃ ch sr br ba bps len, i = .metaFrame ch sr br ba bps len) ∨ (∃ body, i = .chunkFrame body) ∨ i = .endFrame := by
  unfold decodeFrame at h
  repeat' split at h
  all_goals cases h
  · exact .inl ⟨_, _, _, _, _, _, rfl⟩
  · exact .inr (.inl ⟨_, rfl⟩)
  · exact .inr (.inr rfl)

/-- On the Host's turn ABORT clears status, ends the transfer with a close event, or is dropped (R83). -/
theorem execAbort_cases {s t : State} (hturn : s.turn = .host) (h : execAbort s = .next t) :
    (s.phase = .idle ∧ t = s.accept.complete) ∨
    (s.phase ≠ .idle ∧ ∃ e, t = (s.emit e).fail .protoTransportFailure) ∨
    (s.phase ≠ .idle ∧ t = s.flagOverrun) := by
  simp only [execAbort, hturn, presentAbort] at h
  cases hp : s.phase <;> simp only [hp] at h <;> cases h
  case idle => exact .inl ⟨rfl, rfl⟩
  case exec => exact .inr (.inr ⟨nofun, rfl⟩)
  all_goals exact .inr (.inl ⟨nofun, _, rfl⟩)

/-- A codec command presented on the Host's turn is accepted and pends, or is dropped (R75, R76). -/
theorem codecCommand_host {op : Byte} {f g : State → State} {s t : State} (hturn : s.turn = .host)
    (h : codecCommand op f g s = .next t) :
    (s.phase = .idle ∧ t = (f s.accept).pend op) ∨ (s.phase ≠ .idle ∧ t = s.flagOverrun) := by
  rcases codecCommand_cases h with ⟨-, h⟩ | ⟨-, h⟩ | ⟨he, -⟩ | ⟨hn, -⟩
  · exact .inl h
  · exact .inr h
  · cases hturn.symm.trans he
  · exact absurd hturn hn

/-- A transfer command presented on the Host's turn is accepted, or is dropped (R75, R76). -/
theorem transferCommand_host {f : State → State} {g : Answer → State → State} {s t : State} (hturn : s.turn = .host)
    (h : transferCommand f g s = .next t) :
    (s.phase = .idle ∧ t = f s.accept) ∨ (s.phase ≠ .idle ∧ t = s.flagOverrun) := by
  rcases transferCommand_cases h with ⟨-, h⟩ | ⟨-, h⟩ | ⟨r, he, -⟩ | ⟨hn, -⟩
  · exact .inl h
  · exact .inr h
  · cases hturn.symm.trans he
  · exact absurd hturn hn

variable {s t : State}

theorem begin_turn_of {e : Event} (he : s.nextEvent = e) : s.begin.turn = e.turn := by
  rw [State.begin_turn, he]

/-- A legal word at CMD (R75, R76, R83, R94, R103). -/
theorem effect_of_command {v : Word} {i : Instr} (he : s.nextEvent = cmdWrite v) (hd : decodeCommand v = .ok i)
    (h : exec i s.begin = .next t) : Effect s t := by
  have hturn : s.begin.turn = .host := begin_turn_of he
  rcases decodeCommand_ok hd with
    ⟨rfl, rfl⟩ | ⟨rfl, rfl⟩ | ⟨rfl, rfl⟩ | ⟨rfl, rfl⟩ | ⟨rfl, rfl⟩ | ⟨rfl, rfl⟩ | ⟨rfl, rfl⟩
  · rcases codecCommand_host hturn h with ⟨hp, ht⟩ | ⟨hp, ht⟩
    · exact .replacingAccepted _ _ he hp (.inl ⟨rfl, rfl⟩) ht
    · exact .overrun _ he hp ht
  · rcases codecCommand_host hturn h with ⟨hp, ht⟩ | ⟨hp, ht⟩
    · exact .readingAccepted _ _ he hp (.inl ⟨rfl, rfl⟩) ht
    · exact .overrun _ he hp ht
  · rcases codecCommand_host hturn h with ⟨hp, ht⟩ | ⟨hp, ht⟩
    · exact .readingAccepted _ _ he hp (.inr ⟨rfl, rfl⟩) ht
    · exact .overrun _ he hp ht
  · rcases codecCommand_host hturn h with ⟨hp, ht⟩ | ⟨hp, ht⟩
    · exact .replacingAccepted _ _ he hp (.inr ⟨rfl, rfl⟩) ht
    · exact .overrun _ he hp ht
  · rcases transferCommand_host hturn h with ⟨hp, ht⟩ | ⟨hp, ht⟩
    · rcases startSend_cases s.begin.accept with ⟨-, hs⟩ | ⟨-, -, hs⟩ | ⟨hc, hn, hs⟩
      · exact .refused _ _ he hp (by decide) (ht.trans hs)
      · exact .refused _ _ he hp (by decide) (ht.trans hs)
      · exact .sendStarted he hp hc hn (ht.trans hs)
    · exact .overrun _ he hp ht
  · rcases transferCommand_host (f := startReceive) (g := fun _ u => u) hturn h with ⟨hp, ht⟩ | ⟨hp, ht⟩
    · exact .receiveStarted he hp ht
    · exact .overrun _ he hp ht
  · rcases execAbort_cases hturn h with ⟨hp, ht⟩ | ⟨hp, e, ht⟩ | ⟨hp, ht⟩
    · exact .statusCleared he hp ht
    · exact .aborted e he hp ht
    · exact .overrun _ he hp ht

/-- The EXEC step of the pending command (R78, R84, R85, R88, R90). -/
theorem effect_of_exec {i : Instr} (he : s.nextEvent = .engine) (hp : s.phase = .exec)
    (hi : pendingCommand s.pendOp = some i) (h : exec i s.begin = .next t) : Effect s t := by
  have hturn : s.begin.turn = .engine := begin_turn_of he
  have performed {op : Byte} {f g : State → State} (ho : s.pendOp = op)
      (h : codecCommand op f g s.begin = .next t) : t = g s.begin := by
    rw [codecCommand_exec hturn hp ho] at h
    cases h
    rfl
  rcases pendingCommand_some hi with ⟨ho, rfl⟩ | ⟨ho, rfl⟩ | ⟨ho, rfl⟩ | ⟨ho, rfl⟩
  · have ht := performed ho h
    rcases performDecode_cases s.begin with ⟨code, hc, hd⟩ | ⟨-, -, hn, hd⟩
    · exact .execFailed code he hp hc (ht.trans hd)
    · exact .decoded _ he hp ho hn (ht.trans hd)
  · have ht := performed ho h
    rcases performValidate_cases s.begin with ⟨-, hd⟩ | ⟨hc, hd⟩
    · exact .execFailed _ he hp (by decide) (ht.trans hd)
    · exact .validated he hp ho hc (ht.trans hd)
  · have ht := performed ho h
    rcases performEncode_cases s.begin with ⟨-, hd⟩ | ⟨-, -, hd⟩ | ⟨hc, -, hn, hd⟩
    · exact .execFailed _ he hp (by decide) (ht.trans hd)
    · exact .execFailed _ he hp (by decide) (ht.trans hd)
    · exact .encoded _ he hp ho hc hn rfl (ht.trans hd)
  · have ht := performed ho h
    rcases performConstruct_cases s.begin with ⟨-, hd⟩ | ⟨-, hd⟩
    · exact .execFailed _ he hp (by decide) (ht.trans hd)
    · exact .constructed he hp ho (ht.trans hd)

/-- META answered OK: the fragments follow, or END where there is nothing to send (R96). -/
theorem advanceSend_txMeta (hp : s.phase = .txMeta) :
    advanceSend s = { s with phase := if s.txN = 0 then .txEnd else .txChunks } := by
  simp only [advanceSend, hp]
  split <;> rfl

/-- A CHUNK answered OK is counted; END follows the last one (R97). -/
theorem advanceSend_txChunks (hp : s.phase = .txChunks) :
    advanceSend s = { s with
      xferBytes := BitVec.ofNat 32 (s.xferBytes.toNat + s.fragLen), xferFrags := satAdd s.xferFrags 1,
      phase := if s.xferBytes.toNat + s.fragLen = s.txN.toNat then .txEnd else .txChunks } := by
  simp only [advanceSend, hp]

/-- END answered OK completes SEND (R98). -/
theorem advanceSend_txEnd (hp : s.phase = .txEnd) : advanceSend s = s.complete := by
  simp only [advanceSend, hp]

/-- The Channel's answer to the frame SEND offers (R96 to R99). -/
theorem effect_of_answer {r : Answer} (he : s.nextEvent = .answer r) (hs : s.sending = true)
    (h : exec .send s.begin = .next t) : Effect s t := by
  have hturn : s.begin.turn = .answer r := begin_turn_of he
  have ht : answerSend r s.begin = t := by
    simpa only [exec, execSend, transferCommand, hturn, Host.Outcome.next.injEq] using h
  rcases answerSend_cases r s.begin with ⟨-, ha⟩ | ⟨i, -, rfl, ha⟩ | ⟨i, -, rfl, ha⟩
  · exact .notEnabled (ht.symm.trans ha)
  · exact .unsent i he hs (ht.symm.trans ha)
  · have hadv := ht.symm.trans ha
    have hphase : s.phase = .txMeta ∨ s.phase = .txChunks ∨ s.phase = .txEnd := of_decide_eq_true hs
    rcases hphase with hp | hp | hp
    · exact .metaSent i he hp (hadv.trans (advanceSend_txMeta hp))
    · exact .chunkSent i he hp (hadv.trans (advanceSend_txChunks hp))
    · exact .endSent i he hp (hadv.trans (advanceSend_txEnd hp))

/-- A well-formed frame delivered to a receiving block (R105 to R109). -/
theorem effect_of_frame {f : List Byte} {q : List RxEvent} {i : Instr} (he : s.nextEvent = .deliver)
    (hr : s.receiving = true) (hq : s.rxq = .frame f :: q) (hd : decodeFrame f = .ok i)
    (h : exec i { s.begin with rxq := q } = .next t) : Effect s t := by
  have refusal {code : ErrCode} (hc : code ≠ .none) (hl : code ≠ .protoTransportFailure)
      (ht : t = { s.begin with rxq := q }.failReceive code) : Effect s t := by
    rcases failReceive_cases { s.begin with rxq := q } code with ⟨hl', -⟩ | ⟨-, hf⟩
    · exact absurd hl' hl
    · exact .frameRefused q code he hr hc (ht.trans hf)
  have waiting (hn : s.receiving = false) : Effect s t := by simp [hr] at hn
  rcases decodeFrame_ok hd with ⟨ch, sr, br, ba, bps, len, rfl⟩ | ⟨body, rfl⟩ | rfl
  · rcases takeFrame_cases (f := acceptMeta ch sr br ba bps len) (g := fun u => u.failReceive .protoMalformed) h with
      ⟨hp, ht⟩ | ⟨-, ht⟩ | ⟨hn, -⟩
    · rcases acceptMeta_cases ch sr br ba bps len { s.begin with rxq := q } with ⟨-, hm⟩ | ⟨hn, hm⟩
      · exact .metaTooLong q _ len he hp (ht.trans hm)
      · exact .metaTaken q _ len he hp hn (ht.trans hm)
    · exact refusal (by decide) (by decide) ht
    · exact waiting hn
  · rcases takeFrame_cases (f := fun u => u.failReceive .protoNoMetadata) (g := acceptChunk body) h with
      ⟨-, ht⟩ | ⟨hp, ht⟩ | ⟨hn, -⟩
    · exact refusal (by decide) (by decide) ht
    · exact .chunkTaken f q body he hp hq hd ht
    · exact waiting hn
  · rcases takeFrame_cases (f := fun u => u.failReceive .protoNoMetadata) (g := acceptEnd) h with
      ⟨-, ht⟩ | ⟨hp, ht⟩ | ⟨hn, -⟩
    · exact refusal (by decide) (by decide) ht
    · exact .endTaken f q he hp hq hd ht
    · exact waiting hn

/-- An illegal word at CMD (R76, R82). -/
theorem effect_of_illegal {v : Word} (he : s.nextEvent = cmdWrite v) (ht : t = illegalCommand s.begin) :
    Effect s t := by
  rcases present_cases (fun u => u.fail .badCommand) s.begin with ⟨hp, hf⟩ | ⟨hp, hf⟩
  · exact .refused v _ he hp (by decide) (ht.trans hf)
  · exact .overrun v he hp (ht.trans hf)

/-- A host write to a register other than CMD (R30, R32, R38, R50). -/
theorem effect_of_regWrite {a : Nat} {v : Word} (he : s.nextEvent = .host (.write .reg .w32 a v)) (ha : a ≠ 0x04)
    (ht : t = s.begin.writeReg (regAt a) v) : Effect s t := by
  rcases writeReg_cases s.begin (regAt a) v with hw | ⟨hp, hw⟩ | ⟨hp, -, hw⟩ | ⟨hp, r, c, -, hc, hw⟩
  · exact .ignored a v he ha (ht.trans hw)
  · exact .conflict .reg .w32 a v he (fun _ => ha) hp (ht.trans hw)
  · exact .bufLenWrite a v he ha hp (ht.trans hw)
  · exact .fieldWrite a v r c he ha hp hc (ht.trans hw)

/-- Everything a step that goes on makes of the state. -/
theorem effect_of_step (h : step s = .next t) : Effect s t := by
  cases took_of_step h with
  | hostRead sp w a he _ ht => cases sp <;> exact .read _ w a _ he ht
  | command v i he hd ht => exact effect_of_command he hd ht
  | illegal v e he _ ht => exact effect_of_illegal he ht
  | regWrite a v he ha ht => exact effect_of_regWrite he ha ht
  | bufWrite w a v he hl hp ht => exact .bufWrite w a v he hl.2.2 hp ht
  | payWrite w a v he hl hp ht => exact .payWrite w a v he hl.2.2 hp ht
  | dropped sp w a v he hsp hp ht => exact .conflict sp w a v he (fun h => absurd h hsp) hp ht
  | exec i he hp hi ht => exact effect_of_exec he hp hi ht
  | answered r he hp ht => exact effect_of_answer he hp ht
  | linkError q he hp _ ht => exact .linkFailed q he hp ht
  | malformed f q e he hp _ _ ht => exact .frameRefused q _ he hp (by decide) ht
  | frame f q i he hp hq hd ht => exact effect_of_frame he hp hq hd ht
  | reset he ht => exact .reset he ht
  | idle _ ht => exact .notEnabled ht

end Sys2Proof.Machine

/-! ## The invariant, taken apart

`State.Inv` speaks of three things: the memories and the validation status (`StoreOk`), what is recorded of the last
command, and what each phase promises (`PhaseOk`). While a command runs nothing is recorded yet (`Unreported`), and
where it ends no phase promises anything; so a state is good by its store and one of the other two. -/

namespace Sys2Proof.Machine

/-- R25, R29, R53: the memories are canonical and within their sizes, and VALID and VCHECK mean what VDONE says. -/
structure State.StoreOk (s : State) : Prop where
  buf_wf : Memory.wf s.buf = true
  pay_wf : Memory.wf s.pay = true
  buf_range : Memory.below s.cfg.bufBytes s.buf = true
  pay_range : Memory.below s.cfg.payBytes s.pay = true
  not_validated : s.vdone = false → s.valid = false ∧ s.vcheck = 0
  validated : s.vdone = true → s.vcheck = s.c.checks ∧ s.valid = s.c.isValid ∧ s.cpres = true

/-- R75: between its acceptance and its end a command has recorded no outcome. -/
structure State.Unreported (s : State) : Prop where
  done : s.done = false
  failed : s.failed = false
  err : s.err = .none
  sizeMismatch : s.sizeMismatch = false

/-- R59, R94: what SEND rests on in each of its phases. -/
structure State.SendOk (s : State) : Prop where
  present : s.cpres = true
  length : s.txN = s.c.dataSize
  fits : s.txN.toNat ≤ s.cfg.payBytes

/-- What each phase promises, as the rules cited at the fields of `State.Inv` do. -/
def State.PhaseOk (s : State) : Prop :=
  match s.phase with
  | .idle => True
  | .exec => (s.pendOp = 1 ∨ s.pendOp = 2 ∨ s.pendOp = 3 ∨ s.pendOp = 4) ∧
      (s.pendOp = 1 ∨ s.pendOp = 4 → s.cpres = false)
  | .rxMeta => s.cpres = false ∧ s.rxDeclLen = 0 ∧ s.xferBytes = 0 ∧ s.xferFrags = 0
  | .rxChunks => s.cpres = false ∧ s.rxDeclLen.toNat ≤ s.cfg.payBytes
  | .txMeta => s.SendOk ∧ s.xferBytes = 0 ∧ s.xferFrags = 0
  | .txChunks => s.SendOk ∧ s.xferBytes.toNat < s.txN.toNat
  | .txEnd => s.SendOk ∧ s.xferBytes = s.txN

variable {s : State}

/-! ### From the invariant -/

theorem State.Inv.storeOk (h : s.Inv) : s.StoreOk := { h with }

/-- A busy block has recorded no outcome. -/
theorem State.Inv.unreported (h : s.Inv) (hb : s.phase ≠ .idle) : s.Unreported := by
  have hdone : s.done = false := Bool.eq_false_iff.mpr fun hd => hb (h.done_idle hd)
  have hfailed : s.failed = false := Bool.eq_false_iff.mpr fun hf => by simp [h.failed_done hf] at hdone
  exact {
    done := hdone
    failed := hfailed
    err := by simpa [hfailed] using h.failed_err
    sizeMismatch := Bool.eq_false_iff.mpr fun hm => hb (h.mismatch hm).1 }

/-- Whose turn it is and what is to come are nothing to the invariant. -/
theorem State.Inv.begin (h : s.Inv) : s.begin.Inv := { h with }

theorem State.Inv.sendOk (h : s.Inv) (hs : s.sending = true) : s.SendOk :=
  have ⟨hc, hn, hf⟩ := h.sending_present hs
  ⟨hc, hn, hf⟩

/-- Without a container nothing is validated (R25). -/
theorem State.StoreOk.vdone_of_absent (h : s.StoreOk) (hc : s.cpres = false) : s.vdone = false :=
  Bool.eq_false_iff.mpr fun hv => by simp [(h.validated hv).2.2] at hc

/-! ### To the invariant -/

/-- A running command: its store, no outcome yet, and what its phase promises. -/
theorem State.StoreOk.inv_of_running (hs : s.StoreOk) (hu : s.Unreported) (hp : s.PhaseOk) : s.Inv := by
  obtain ⟨hdone, hfailed, herr, hmis⟩ := hu
  exact { hs with
    done_idle := by simp [hdone]
    failed_done := by simp [hfailed]
    failed_err := by simp [hfailed, herr]
    mismatch := by simp [hmis]
    exec_pending := fun h => by simp only [PhaseOk, h] at hp; exact hp.1
    exec_replacing := fun h => by simp only [PhaseOk, h] at hp; exact hp.2
    receiving_absent := fun h => by
      rcases of_decide_eq_true h with h | h <;> simp only [PhaseOk, h] at hp <;> exact hp.1
    rxMeta_fresh := fun h => by simp only [PhaseOk, h] at hp; exact hp.2
    rxChunks_fits := fun h => by simp only [PhaseOk, h] at hp; exact hp.2
    sending_present := fun h => by
      have hsend : s.SendOk := by
        rcases of_decide_eq_true h with h | h | h <;> simp only [PhaseOk, h] at hp <;> exact hp.1
      exact ⟨hsend.present, hsend.length, hsend.fits⟩
    txMeta_fresh := fun h => by simp only [PhaseOk, h] at hp; exact hp.2
    txChunks_left := fun h => by simp only [PhaseOk, h] at hp; exact hp.2
    txEnd_sent := fun h => by simp only [PhaseOk, h] at hp; exact hp.2 }

/-- An idle block: its store, and an outcome that is consistent. -/
theorem State.StoreOk.inv_of_idle (hs : s.StoreOk) (hp : s.phase = .idle) (hd : s.failed = true → s.done = true)
    (he : s.failed = true ↔ s.err ≠ .none)
    (hm : s.sizeMismatch = true → s.cpres = true ∧ s.xferBytes ≠ s.rxDeclLen) : s.Inv :=
  { hs with
    done_idle := fun _ => hp
    failed_done := hd
    failed_err := he
    mismatch := fun h => ⟨hp, hm h⟩
    exec_pending := by simp [hp]
    exec_replacing := by simp [hp]
    receiving_absent := by simp [State.receiving, hp]
    rxMeta_fresh := by simp [hp]
    rxChunks_fits := by simp [hp]
    sending_present := by simp [State.sending, hp]
    txMeta_fresh := by simp [hp]
    txChunks_left := by simp [hp]
    txEnd_sent := by simp [hp] }

/-- The error entry gives a good state (R120). -/
theorem State.StoreOk.fail_inv (hs : s.StoreOk) (hm : s.sizeMismatch = false) {code : ErrCode} (hc : code ≠ .none) :
    (s.fail code).Inv :=
  State.StoreOk.inv_of_idle (s := s.fail code) { hs with } rfl (fun _ => rfl) (by simp [hc]) (by simp [hm])

/-- Completion gives a good state (R81). -/
theorem State.StoreOk.complete_inv (hs : s.StoreOk)
    (hm : s.sizeMismatch = true → s.cpres = true ∧ s.xferBytes ≠ s.rxDeclLen) : s.complete.Inv :=
  State.StoreOk.inv_of_idle (s := s.complete) { hs with } rfl (by simp) (by simp) hm

/-! ### What the operations keep of it -/

theorem accept_unreported (s : State) : s.accept.Unreported := ⟨rfl, rfl, rfl, rfl⟩

/-- The slot is emptied together with its validation status (R24, R25). -/
theorem State.StoreOk.discardContainer (hs : s.StoreOk) : s.discardContainer.StoreOk :=
  { hs with not_validated := by simp, validated := by simp }

/-- A container that enters an empty slot is not validated yet (R24, R25). -/
theorem State.StoreOk.withContainer (hs : s.StoreOk) (hc : s.cpres = false) (c : Container) :
    { s with c := c, cpres := true }.StoreOk :=
  { hs with validated := by simp [hs.vdone_of_absent hc] }

/-- A write within PAY, or of no byte, keeps the store (R53). -/
theorem State.StoreOk.writePay (hs : s.StoreOk) {a : Nat} {bs : List Byte}
    (hl : a + bs.length ≤ s.cfg.payBytes ∨ bs = []) : (s.writePay a bs).StoreOk :=
  { hs with
    pay_wf := Memory.wf_write _ _ _ hs.pay_wf
    pay_range := Memory.below_write _ _ _ _ hs.pay_range hl }

/-- A write within BUF keeps the store (R53). -/
theorem State.StoreOk.writeBuf (hs : s.StoreOk) {a : Nat} {bs : List Byte} (hl : a + bs.length ≤ s.cfg.bufBytes) :
    (s.writeBuf a bs).StoreOk :=
  { hs with
    buf_wf := Memory.wf_write _ _ _ hs.buf_wf
    buf_range := Memory.below_write _ _ _ _ hs.buf_range (.inl hl) }

/-- A host write stores no more bytes than its width (R48). -/
theorem bytesOfWord_length_le (w : Width) (v : Word) : (bytesOfWord w v).length ≤ w.bytes := by
  simp [bytesOfWord]

/-- The image is its 44 header bytes and the payload (R67). -/
theorem image_length (s : State) : s.image.length = hdrBytes + s.c.dataSize.toNat := by
  simp only [State.image, Container.header, List.length_append, bytes32_length, bytes16_length, readPay_length]

/-- Reset empties the slot and records nothing; the memories stay (R132). -/
theorem State.StoreOk.restart_inv (hs : s.StoreOk) : s.restart.Inv :=
  State.StoreOk.inv_of_idle (s := s.restart)
    { hs with not_validated := by simp, validated := by simp } rfl (by simp) (by simp) (by simp)

/-- An accepted codec command waits for its EXEC step; a replacing one has emptied the slot (R75, R78). -/
theorem State.StoreOk.pend_inv {op : Byte} (hs : s.StoreOk) (hu : s.Unreported)
    (hop : op = 1 ∨ op = 2 ∨ op = 3 ∨ op = 4) (hc : op = 1 ∨ op = 4 → s.cpres = false) : (s.pend op).Inv :=
  State.StoreOk.inv_of_running (s := s.pend op) { hs with } { hu with } ⟨hop, hc⟩

/-! ### The steps that go on with a command -/

variable {t : State}

/-- META was answered: END follows at once exactly where there is nothing to send (R96). -/
theorem metaSent_inv {e : Emission} (h : s.Inv) (hp : s.phase = .txMeta) :
    { s.emit e with phase := if s.txN = 0 then .txEnd else .txChunks }.Inv := by
  have hsend := h.sendOk (by simp [State.sending, hp])
  have hx := (h.txMeta_fresh hp).1
  refine State.StoreOk.inv_of_running { h.storeOk with } { h.unreported (by simp [hp]) with } ?_
  by_cases hn : s.txN = 0
  · simp only [hn, if_true]
    exact ⟨{ hsend with }, hx.trans hn.symm⟩
  · simp only [hn, if_false]
    refine ⟨{ hsend with }, ?_⟩
    have hpos : s.txN.toNat ≠ 0 := fun h0 => hn (BitVec.eq_of_toNat_eq h0)
    simpa [hx] using Nat.pos_of_ne_zero hpos

/-- A CHUNK was answered: as no fragment passes the end of the payload, what is sent counts exactly, and END follows the
last fragment (R97). -/
theorem chunkSent_inv {e : Emission} (h : s.Inv) (hp : s.phase = .txChunks) :
    { s.emit e with
      xferBytes := BitVec.ofNat 32 (s.xferBytes.toNat + s.fragLen), xferFrags := satAdd s.xferFrags 1,
      phase := if s.xferBytes.toNat + s.fragLen = s.txN.toNat then .txEnd else .txChunks }.Inv := by
  have hsend := h.sendOk (by simp [State.sending, hp])
  have hle : s.xferBytes.toNat + s.fragLen ≤ s.txN.toNat := by
    have := h.txChunks_left hp
    simp only [State.fragLen]
    omega
  have hcount : (BitVec.ofNat 32 (s.xferBytes.toNat + s.fragLen)).toNat = s.xferBytes.toNat + s.fragLen := by
    have := s.txN.isLt
    rw [BitVec.toNat_ofNat]
    omega
  refine State.StoreOk.inv_of_running { h.storeOk with } { h.unreported (by simp [hp]) with } ?_
  by_cases hn : s.xferBytes.toNat + s.fragLen = s.txN.toNat
  · simp only [hn, if_true]
    exact ⟨{ hsend with }, BitVec.eq_of_toNat_eq (by simp)⟩
  · simp only [hn, if_false]
    exact ⟨{ hsend with }, hcount.trans_lt (Nat.lt_of_le_of_ne hle hn)⟩

/-- A CHUNK was taken: its bytes below the declared length land within PAY (R105, R107). -/
theorem chunkTaken_inv {q : List RxEvent} {body : List Byte} {frags : Word} {bytes : Word} (h : s.Inv)
    (hp : s.phase = .rxChunks) :
    { s.writePay s.xferBytes.toNat (body.take (s.rxDeclLen.toNat - s.xferBytes.toNat)) with
      rxq := q, xferBytes := bytes, xferFrags := frags }.Inv := by
  have hfit := h.rxChunks_fits hp
  have hstore := h.storeOk.writePay (a := s.xferBytes.toNat)
    (bs := body.take (s.rxDeclLen.toNat - s.xferBytes.toNat)) (by
      rcases Nat.lt_or_ge s.xferBytes.toNat s.rxDeclLen.toNat with hlt | hge
      · left
        rw [List.length_take]
        omega
      · right
        rw [Nat.sub_eq_zero_of_le hge, List.take_zero])
  refine State.StoreOk.inv_of_running { hstore with } { h.unreported (by simp [hp]) with } ?_
  simp only [State.PhaseOk, State.writePay_phase, hp]
  exact ⟨h.receiving_absent (by simp [State.receiving, hp]), hfit⟩

/-- META was taken: the declared length fits PAY (R105). -/
theorem metaTaken_inv {q : List RxEvent} {st : Staging} {len : Word} (h : s.Inv) (hp : s.phase = .rxMeta)
    (hn : len.toNat ≤ s.cfg.payBytes) :
    { s with rxq := q, rx := st, rxDeclLen := len, phase := .rxChunks }.Inv :=
  State.StoreOk.inv_of_running { h.storeOk with } { h.unreported (by simp [hp]) with }
    ⟨h.receiving_absent (by simp [State.receiving, hp]), hn⟩

/-- END was taken: the container enters the empty slot, and the counts are compared (R109). -/
theorem endTaken_inv {q : List RxEvent} {c : Container} (h : s.Inv) (hp : s.phase = .rxChunks) :
    { s with rxq := q, sizeMismatch := decide (s.xferBytes ≠ s.rxDeclLen), c := c, cpres := true }.complete.Inv := by
  have habsent := h.receiving_absent (by simp [State.receiving, hp])
  exact State.StoreOk.complete_inv { h.storeOk.withContainer habsent c with } fun hm => ⟨rfl, of_decide_eq_true hm⟩

/-- DECODE parsed the image: its payload lies within PAY and the container enters the empty slot (R84). -/
theorem decoded_inv {bs : List Byte} {c : Container} (h : s.Inv) (hp : s.phase = .exec) (ho : s.pendOp = 1)
    (hl : bs.length ≤ s.cfg.payBytes) : { s.writePay 0 bs with c := c, cpres := true }.complete.Inv := by
  have habsent := h.exec_replacing hp (.inl ho)
  have hmis := (h.unreported (by simp [hp])).sizeMismatch
  exact ((h.storeOk.writePay (.inl (by omega))).withContainer habsent c).complete_inv (by simp [hmis])

/-- A host write of BUF within its size (R48). -/
theorem bufWrite_inv {a : Nat} {bs : List Byte} (h : s.Inv) (hl : a + bs.length ≤ s.cfg.bufBytes) :
    (s.writeBuf a bs).Inv :=
  { h with
    buf_wf := (h.storeOk.writeBuf hl).buf_wf
    buf_range := (h.storeOk.writeBuf hl).buf_range }

/-- A host write of PAY within its size (R48). -/
theorem payWrite_inv {a : Nat} {bs : List Byte} (h : s.Inv) (hl : a + bs.length ≤ s.cfg.payBytes) :
    (s.writePay a bs).Inv :=
  { h with
    pay_wf := (h.storeOk.writePay (.inl hl)).pay_wf
    pay_range := (h.storeOk.writePay (.inl hl)).pay_range }

/-- The step of a host write to a C_* register: the validation no longer describes the container (R32). -/
theorem fieldWrite_inv {c : Container} (h : s.Inv) (hp : s.phase = .idle) : { s with c := c }.clearValidation.Inv :=
  { h with
    not_validated := by simp
    validated := by simp
    sending_present := by simp [State.sending, hp] }

/-- A command that a busy block gives up leaves a good state (R83, R99, R115, R120). -/
theorem State.Inv.fail (h : s.Inv) (hb : s.phase ≠ .idle) {code : ErrCode} (hc : code ≠ .none) : (s.fail code).Inv :=
  h.storeOk.fail_inv (h.unreported hb).sizeMismatch hc

/-- What the port has carried is nothing to the invariant. -/
theorem State.Inv.emit (h : s.Inv) (e : Emission) : (s.emit e).Inv := { h with }

/-- What the Channel still holds is nothing to the invariant. -/
theorem State.Inv.take (h : s.Inv) (q : List RxEvent) : { s with rxq := q }.Inv := { h with }

/-- META with a length that PAY cannot hold was refused; what it staged stays (R105). -/
theorem metaTooLong_inv {q : List RxEvent} {st : Staging} {len : Word} {e : Emission} {code : ErrCode} (h : s.Inv)
    (hb : s.phase ≠ .idle) (hc : code ≠ .none) :
    (({ s with rxq := q, rx := st, rxDeclLen := len }.emit e).fail code).Inv := by
  have hstore : ({ s with rxq := q, rx := st, rxDeclLen := len }.emit e).StoreOk := { h.storeOk with }
  exact hstore.fail_inv (h.unreported hb).sizeMismatch hc

/-- The common clearing touches neither the memories nor the slot (R75). -/
theorem State.StoreOk.accept (hs : s.StoreOk) : s.accept.StoreOk := { hs with }

/-- DECODE or CONSTRUCT was accepted: the slot is empty before it pends (R24). -/
theorem replacingAccepted_inv {op : Byte} (h : s.Inv) (hop : op = 1 ∨ op = 4) :
    (s.accept.discardContainer.pend op).Inv :=
  h.storeOk.accept.discardContainer.pend_inv { accept_unreported s with } (hop.imp_right fun h => .inr (.inr h))
    fun _ => rfl

/-- VALIDATE or ENCODE was accepted. -/
theorem readingAccepted_inv {op : Byte} (h : s.Inv) (hop : op = 2 ∨ op = 3) : (s.accept.pend op).Inv := by
  refine h.storeOk.accept.pend_inv (accept_unreported s) (.inr (hop.imp_right .inl)) fun hr => ?_
  rcases hop with rfl | rfl <;> simp at hr

/-- SEND started with a container that fits PAY (R94). -/
theorem sendStarted_inv (h : s.Inv) (hc : s.cpres = true) (hn : s.c.dataSize.toNat ≤ s.cfg.payBytes) :
    { s.accept.clearCounters with txN := s.c.dataSize, phase := .txMeta }.Inv :=
  State.StoreOk.inv_of_running { h.storeOk with } { accept_unreported s with } ⟨⟨hc, rfl, hn⟩, rfl, rfl⟩

/-- RECEIVE started with an empty slot and the counters at 0 (R103). -/
theorem receiveStarted_inv (h : s.Inv) :
    { s.accept.discardContainer.clearCounters with rxDeclLen := 0, phase := .rxMeta }.Inv :=
  State.StoreOk.inv_of_running { h.storeOk.accept.discardContainer with } { accept_unreported s with }
    ⟨rfl, rfl, rfl, rfl⟩

/-- VALIDATE recorded the checks of the present container (R85). -/
theorem validated_inv (h : s.Inv) (hp : s.phase = .exec) (hc : s.cpres = true) :
    { s with vcheck := s.c.checks, valid := s.c.isValid, vdone := true }.complete.Inv := by
  have hmis := (h.unreported (by simp [hp])).sizeMismatch
  exact State.StoreOk.complete_inv
    { h.storeOk with not_validated := nofun, validated := fun _ => ⟨rfl, rfl, hc⟩ } (by simp [hmis])

/-- ENCODE wrote an image that fits BUF (R88). -/
theorem encoded_inv {n : Word} {bs : List Byte} (h : s.Inv) (hp : s.phase = .exec)
    (hl : bs.length ≤ s.cfg.bufBytes) : { s.writeBuf 0 bs with bufLen := n }.complete.Inv := by
  have hmis := (h.unreported (by simp [hp])).sizeMismatch
  have hstore : { s.writeBuf 0 bs with bufLen := n }.StoreOk := { h.storeOk.writeBuf (a := 0) (by omega) with }
  exact hstore.complete_inv (by simp [hmis])

/-- CONSTRUCT put its container into the empty slot (R90). -/
theorem constructed_inv {c : Container} (h : s.Inv) (hp : s.phase = .exec) (ho : s.pendOp = 4) :
    { s with c := c, cpres := true }.complete.Inv := by
  have hmis := (h.unreported (by simp [hp])).sizeMismatch
  exact (h.storeOk.withContainer (h.exec_replacing hp (.inr ho)) c).complete_inv (by simp [hmis])

/-- END was answered: SEND completes (R98). -/
theorem endSent_inv (h : s.Inv) (hb : s.phase ≠ .idle) : s.complete.Inv :=
  h.storeOk.complete_inv (by simp [(h.unreported hb).sizeMismatch])

/-! ### Every step -/

theorem busy_of_sending (h : s.sending = true) : s.phase ≠ .idle := by
  rcases of_decide_eq_true h with h | h | h <;> simp [h]

theorem busy_of_receiving (h : s.receiving = true) : s.phase ≠ .idle := by
  rcases of_decide_eq_true h with h | h <;> simp [h]

/-- Whatever a step makes of a good state is a good state. -/
theorem State.Inv.of_effect (hinv : s.Inv) (heff : Effect s t) : t.Inv := by
  have h := hinv.begin
  cases heff with
  | read sp w a d he ht => subst ht; exact { h with }
  | ignored a v he ha ht => subst ht; exact h
  | conflict sp w a v he ha hp ht => subst ht; exact { h with }
  | bufLenWrite a v he ha hp ht => subst ht; exact { h with }
  | fieldWrite a v r c he ha hp hc ht => subst ht; exact fieldWrite_inv h hp
  | bufWrite w a v he hl hp ht =>
    subst ht
    exact bufWrite_inv h (Nat.le_trans (Nat.add_le_add_left (bytesOfWord_length_le w v) a) hl)
  | payWrite w a v he hl hp ht =>
    subst ht
    exact payWrite_inv h (Nat.le_trans (Nat.add_le_add_left (bytesOfWord_length_le w v) a) hl)
  | replacingAccepted v op he hp hv ht => subst ht; exact replacingAccepted_inv h (hv.imp And.right And.right)
  | readingAccepted v op he hp hv ht => subst ht; exact readingAccepted_inv h (hv.imp And.right And.right)
  | refused v code he hp hc ht => subst ht; exact h.storeOk.accept.fail_inv rfl hc
  | sendStarted he hp hc hn ht => subst ht; exact sendStarted_inv h hc hn
  | receiveStarted he hp ht => subst ht; exact receiveStarted_inv h
  | statusCleared he hp ht => subst ht; exact h.storeOk.accept.complete_inv nofun
  | aborted e he hp ht => subst ht; exact (h.emit e).fail hp (by decide)
  | overrun v he hp ht => subst ht; exact { h with }
  | execFailed code he hp hc ht => subst ht; exact h.fail (by simp [hp]) hc
  | decoded n he hp ho hn ht => subst ht; exact decoded_inv h hp ho (by simpa using hn)
  | validated he hp ho hc ht => subst ht; exact validated_inv h hp hc
  | encoded img he hp ho hc hn hi ht => subst ht; exact encoded_inv h hp (by rwa [hi, image_length])
  | constructed he hp ho ht => subst ht; exact constructed_inv h hp ho
  | unsent i he hp ht => subst ht; exact (h.emit _).fail (busy_of_sending hp) (by decide)
  | metaSent i he hp ht => subst ht; exact metaSent_inv h hp
  | chunkSent i he hp ht => subst ht; exact chunkSent_inv h hp
  | endSent i he hp ht => subst ht; exact endSent_inv (h.emit _) (by simp [hp])
  | linkFailed q he hp ht => subst ht; exact (h.take q).fail (busy_of_receiving hp) (by decide)
  | frameRefused q code he hp hc ht => subst ht; exact ((h.take q).emit _).fail (busy_of_receiving hp) hc
  | metaTooLong q st len he hp ht => subst ht; exact metaTooLong_inv h (by simp [hp]) (by decide)
  | metaTaken q st len he hp hn ht => subst ht; exact metaTaken_inv h hp hn
  | chunkTaken f q body he hp hq hd ht => subst ht; exact chunkTaken_inv h hp
  | endTaken f q he hp hq hd ht => subst ht; exact endTaken_inv h hp
  | reset he ht => subst ht; exact h.storeOk.restart_inv
  | notEnabled ht => subst ht; exact h

end Sys2Proof.Machine

namespace Sys2Proof

/-- Settles O9: every outcome of a step (`Effect`) is built from operations that keep the invariant. -/
theorem stepKeepsTheInvariant : Obligations.StepKeepsTheInvariant :=
  fun _ _ hinv hstep => hinv.of_effect (Machine.effect_of_step hstep)

end Sys2Proof

/-! ## What a step leaves unchanged (10_state.md R24, R27, R35 to R37)

Each law reads off the cases of `Effect` which of them write a field at all. -/

namespace Sys2Proof.Machine

variable {s t : State}

/-- R37: the parameters. -/
theorem Effect.cfg_powerUp (h : Effect s t) : t.cfg = s.cfg ∧ t.powerUp = s.powerUp := by
  cases h
  all_goals rename_i ht; subst ht; exact ⟨rfl, rfl⟩

/-- R24: CPRES is kept, but where a replacing command ends (1), where one is accepted (0), and at reset. -/
theorem Effect.cpres (h : Effect s t) :
    t.cpres = s.cpres ∨
    (t.cpres = true ∧
      ((s.nextEvent = .engine ∧ s.phase = .exec ∧ (s.pendOp = 0x01 ∨ s.pendOp = 0x04)) ∨
       (s.nextEvent = .deliver ∧ s.phase = .rxChunks ∧
         ∃ f q, s.rxq = .frame f :: q ∧ decode .channel f = .ok .endFrame))) ∨
    (t.cpres = false ∧
      (s.nextEvent = .reset ∨
       (s.phase = .idle ∧
         (s.nextEvent = cmdWrite 0x01 ∨ s.nextEvent = cmdWrite 0x04 ∨ s.nextEvent = cmdWrite 0x06)))) := by
  cases h
  case decoded n he hp ho hn ht => subst ht; exact .inr (.inl ⟨rfl, .inl ⟨he, hp, .inl ho⟩⟩)
  case constructed he hp ho ht => subst ht; exact .inr (.inl ⟨rfl, .inl ⟨he, hp, .inr ho⟩⟩)
  case endTaken f q he hp hq hd ht => subst ht; exact .inr (.inl ⟨rfl, .inr ⟨he, hp, f, q, hq, hd⟩⟩)
  case replacingAccepted v op he hp hv ht =>
    subst ht
    refine .inr (.inr ⟨rfl, .inr ⟨hp, ?_⟩⟩)
    rcases hv with ⟨rfl, -⟩ | ⟨rfl, -⟩
    · exact .inl he
    · exact .inr (.inl he)
  case receiveStarted he hp ht => subst ht; exact .inr (.inr ⟨rfl, .inr ⟨hp, .inr (.inr he)⟩⟩)
  case reset he ht => subst ht; exact .inr (.inr ⟨rfl, .inl he⟩)
  all_goals rename_i ht; subst ht; exact .inl rfl

/-- R27: the sticky bits are kept, but at reset and acceptance, which clear both, and where a busy block drops a host
write, which sets the one that goes with it. -/
theorem Effect.sticky (h : Effect s t) :
    (t.cmdOverrun = s.cmdOverrun ∧ t.hostConflict = s.hostConflict) ∨
    (t.cmdOverrun = false ∧ t.hostConflict = false ∧
      (s.nextEvent = .reset ∨ (s.phase = .idle ∧ ∃ w, s.nextEvent = cmdWrite w))) ∨
    (t.cmdOverrun = true ∧ t.hostConflict = s.hostConflict ∧ s.phase ≠ .idle ∧ ∃ w, s.nextEvent = cmdWrite w) ∨
    (t.hostConflict = true ∧ t.cmdOverrun = s.cmdOverrun ∧ s.phase ≠ .idle ∧
      ∃ sp w a v, s.nextEvent = .host (.write sp w a v) ∧ s.nextEvent ≠ cmdWrite v) := by
  cases h
  case replacingAccepted v op he hp hv ht => subst ht; exact .inr (.inl ⟨rfl, rfl, .inr ⟨hp, v, he⟩⟩)
  case readingAccepted v op he hp hv ht => subst ht; exact .inr (.inl ⟨rfl, rfl, .inr ⟨hp, v, he⟩⟩)
  case refused v code he hp hc ht => subst ht; exact .inr (.inl ⟨rfl, rfl, .inr ⟨hp, v, he⟩⟩)
  case sendStarted he hp hc hn ht => subst ht; exact .inr (.inl ⟨rfl, rfl, .inr ⟨hp, _, he⟩⟩)
  case receiveStarted he hp ht => subst ht; exact .inr (.inl ⟨rfl, rfl, .inr ⟨hp, _, he⟩⟩)
  case statusCleared he hp ht => subst ht; exact .inr (.inl ⟨rfl, rfl, .inr ⟨hp, _, he⟩⟩)
  case reset he ht => subst ht; exact .inr (.inl ⟨rfl, rfl, .inl he⟩)
  case overrun v he hp ht => subst ht; exact .inr (.inr (.inl ⟨rfl, rfl, hp, v, he⟩))
  case conflict sp w a v he ha hp ht =>
    have hcmd : s.nextEvent ≠ cmdWrite v := by
      rw [he]
      simpa [cmdWrite] using fun hsp _ => ha hsp
    subst ht
    exact .inr (.inr (.inr ⟨rfl, rfl, hp, sp, w, a, v, he, hcmd⟩))
  all_goals rename_i ht; subst ht; exact .inl ⟨rfl, rfl⟩

/-- R35, R36: the counters are kept, but where a transfer starts, where a CHUNK was sent or taken, and at reset. -/
theorem Effect.counters (h : Effect s t) :
    (t.xferBytes = s.xferBytes ∧ t.xferFrags = s.xferFrags) ∨ s.nextEvent = .reset ∨
    (s.phase = .idle ∧ ((s.nextEvent = cmdWrite 0x05 ∧ t.failed = false) ∨ s.nextEvent = cmdWrite 0x06)) ∨
    (s.phase = .txChunks ∧ s.nextEvent = .answer .ok) ∨
    (s.phase = .rxChunks ∧ s.nextEvent = .deliver ∧
      ∃ f q body, s.rxq = .frame f :: q ∧ decode .channel f = .ok (.chunkFrame body)) := by
  cases h
  case reset he ht => exact .inr (.inl he)
  case sendStarted he hp hc hn ht => subst ht; exact .inr (.inr (.inl ⟨hp, .inl ⟨he, rfl⟩⟩))
  case receiveStarted he hp ht => exact .inr (.inr (.inl ⟨hp, .inr he⟩))
  case chunkSent i he hp ht => exact .inr (.inr (.inr (.inl ⟨hp, he⟩)))
  case chunkTaken f q body he hp hq hd ht => exact .inr (.inr (.inr (.inr ⟨hp, he, f, q, body, hq, hd⟩)))
  all_goals rename_i ht; subst ht; exact .inl ⟨rfl, rfl⟩

/-- The reset event restarts the block, in every state (R131). -/
theorem step_reset (he : s.nextEvent = .reset) : step s = .next s.begin.restart := by
  simp [step, fetch, he]

/-- A legal word written to CMD is run as the instruction it is (R20, R75). -/
theorem step_cmdWrite {v : Word} {i : Instr} (he : s.nextEvent = cmdWrite v) (hd : decodeCommand v = .ok i) :
    step s = exec i s.begin := by
  have hadm : admitted s.cfg .reg .w32 0x04 = true := rfl
  simp [step, fetch, he, cmdWrite, hostAccess, hadm, hostWrite, regAt, presentWord, decode_cmd_bytes32, hd]

/-- What an idle block makes of RECEIVE at CMD (R103). -/
theorem step_receive (he : s.nextEvent = cmdWrite 0x06) (hp : s.phase = .idle) :
    step s = .next (startReceive s.begin.accept) := by
  have hturn : s.nextEvent.turn = .host := by rw [he]; rfl
  rw [step_cmdWrite he rfl]
  simp [exec, execReceive, transferCommand, hturn, present, hp]

/-- What an idle block makes of SEND at CMD (R94). -/
theorem step_send (he : s.nextEvent = cmdWrite 0x05) (hp : s.phase = .idle) :
    step s = .next (startSend s.begin.accept) := by
  have hturn : s.nextEvent.turn = .host := by rw [he]; rfl
  rw [step_cmdWrite he rfl]
  simp [exec, execSend, transferCommand, hturn, present, hp]

/-- A SEND that has not failed at its acceptance started with both counters at 0 (R35, R36). -/
theorem startSend_counters (h : (startSend s).failed = false) :
    (startSend s).xferBytes = 0 ∧ (startSend s).xferFrags = 0 := by
  rcases startSend_cases s with ⟨-, hs⟩ | ⟨-, -, hs⟩ | ⟨-, -, hs⟩
  · simp [hs] at h
  · simp [hs] at h
  · rw [hs]
    exact ⟨rfl, rfl⟩

end Sys2Proof.Machine

namespace Sys2Proof

open Machine

/-- Settles O16. -/
theorem parametersNeverChange : Obligations.ParametersNeverChange :=
  fun _ _ hstep => (effect_of_step hstep).cfg_powerUp

/-- Settles O13: the steps that write CPRES, and the value each of them writes. -/
theorem onlyReplacingCommandsWriteCpres : Obligations.OnlyReplacingCommandsWriteCpres := by
  intro s t hstep
  rcases (effect_of_step hstep).cpres with hkept | ⟨hset, hwhen⟩ | ⟨hcleared, hwhen⟩
  · exact ⟨fun h0 h1 => by simp [hkept, h0] at h1, fun h1 h0 => by simp [hkept, h1] at h0⟩
  · exact ⟨fun _ _ => hwhen, fun _ h0 => by simp [hset] at h0⟩
  · exact ⟨fun _ h1 => by simp [hcleared] at h1, fun _ _ => hwhen⟩

/-- Settles O14: the start of a transfer and reset by what they write, every other step by what it keeps. -/
theorem onlyTransfersWriteTheCounters : Obligations.OnlyTransfersWriteTheCounters := by
  intro s t hstep
  refine ⟨?starts, ?resets, (effect_of_step hstep).counters⟩
  case starts =>
    rintro hp (he | ⟨he, hf⟩)
    · obtain rfl : startReceive s.begin.accept = t := by simpa [step_receive he hp] using hstep
      exact ⟨rfl, rfl⟩
    · obtain rfl : startSend s.begin.accept = t := by simpa [step_send he hp] using hstep
      exact startSend_counters hf
  case resets =>
    intro he
    obtain rfl : s.begin.restart = t := by simpa [step_reset he] using hstep
    exact ⟨rfl, rfl⟩

/-- Settles O15: each way a step treats the two sticky bits, against each clause. -/
theorem stickyBitsStayUntilAcceptance : Obligations.StickyBitsStayUntilAcceptance := by
  intro s t hstep
  rcases (effect_of_step hstep).sticky with ⟨ho, hc⟩ | ⟨ho, hc, hwhen⟩ | ⟨ho, hc, hwhen⟩ | ⟨hc, ho, hwhen⟩
  · simp [ho, hc]
  · simp [ho, hc, hwhen]
  · simp [ho, hc, hwhen]
  · simp [ho, hc, hwhen]

end Sys2Proof

/-! ## The register window (10_state.md R18 to R38) -/

namespace Sys2Proof.Machine

open Claims

/-- R18: the byte offset of each register. -/
def Reg.offset : Reg → Nat
  | .id => 0x00
  | .cmd => 0x04
  | .status => 0x08
  | .err => 0x0C
  | .vcheck => 0x10
  | .bufLen => 0x14
  | .cRiffId => 0x18
  | .cTotalSize => 0x1C
  | .cWaveId => 0x20
  | .cFmtId => 0x24
  | .cFmtSize => 0x28
  | .cFmtTag => 0x2C
  | .cChannels => 0x30
  | .cSampleRate => 0x34
  | .cByteRate => 0x38
  | .cBlockAlign => 0x3C
  | .cBits => 0x40
  | .cDataId => 0x44
  | .cDataSize => 0x48
  | .rxDeclLen => 0x4C
  | .xferBytes => 0x50
  | .xferFrags => 0x54
  | .cfgFragMax => 0x58
  | .cfgPayBytes => 0x5C
  | .cfgBufBytes => 0x60

/-- R18, R38: every register is word-aligned, below the reserved offsets. -/
theorem Reg.offset_aligned (r : Reg) : r.offset % 4 = 0 ∧ r.offset < 0x64 := by cases r <;> decide

@[simp] theorem regAt_offset (r : Reg) : regAt r.offset = some r := by cases r <;> rfl

/-- `regAt` is the inverse of `Reg.offset`: a register is found at its own offset only. -/
theorem offset_of_regAt {a : Nat} {r : Reg} (h : regAt a = some r) : a = r.offset := by
  unfold regAt at h
  split at h <;> cases h <;> rfl

/-- The registers fill the window from its start without a gap: a reserved offset lies past the last of them. -/
theorem exists_reg_of_offset {a : Nat} (hal : a % 4 = 0) (hlt : a < 0x64) : ∃ r : Reg, a = r.offset := by
  obtain ⟨k, rfl⟩ := Nat.dvd_of_mod_eq_zero hal
  have hk : k < 25 := by omega
  have hall : ∀ k : Fin 25, (regAt (4 * k)).isSome = true := by decide
  obtain ⟨r, hr⟩ := Option.isSome_iff_exists.mp (hall ⟨k, hk⟩)
  exact ⟨r, offset_of_regAt hr⟩

/-- R38: no register is at a reserved offset. -/
theorem regAt_reserved {a : Nat} (h : 0x64 ≤ a) : regAt a = none := by
  cases hr : regAt a with
  | none => rfl
  | some r =>
    have ha := offset_of_regAt hr
    have hlt := r.offset_aligned.2
    omega

theorem readRegAt_offset (s : State) (r : Reg) : s.readRegAt r.offset = s.readReg r := by
  simp [State.readRegAt]

/-- What a register reads does not depend on whose turn it is or what is to come. -/
theorem readRegAt_begin (s : State) (a : Nat) : s.begin.readRegAt a = s.readRegAt a := by
  unfold State.readRegAt
  split
  case h_1 r _ => cases r <;> rfl
  case h_2 => rfl

/-! ### The step of a host access to the window -/

variable {s : State} {a : Nat} {v : Word} {rest : List Event}

theorem admitted_reg (cfg : Config) (hal : a % 4 = 0) (hlt : a < 0x100) : admitted cfg .reg .w32 a = true :=
  (admitted_iff_legal cfg (.read .reg .w32 a)).mpr ⟨rfl, hal, hlt⟩

/-- The state a host access acts in, as the statements spell it. -/
theorem begin_of_hostNext {x : Access} (h : HostNext s x rest) : s.begin = hostTurn s rest := begin_cons h

/-- R38, R51: a read of the window returns the register at its offset. -/
theorem reads_readRegAt (hal : a % 4 = 0) (hlt : a < 0x100) : Reads s a (s.readRegAt a) := by
  intro rest hnext
  have hread : (hostTurn s rest).readRegAt a = s.readRegAt a := by
    rw [← begin_of_hostNext hnext, readRegAt_begin]
  simp [step, fetch, nextEvent_cons hnext, hostAccess, begin_of_hostNext hnext, admitted_reg _ hal hlt, hostRead, hread]

/-- R18: each register is read at its offset. -/
theorem reads_offset (s : State) (r : Reg) : Reads s r.offset (s.readReg r) := by
  obtain ⟨hal, hlt⟩ := r.offset_aligned
  rw [← readRegAt_offset]
  exact reads_readRegAt hal (by omega)

/-- R30, R32, R38: a write of the window, elsewhere than at CMD, is one to the register at its offset. -/
theorem step_regWrite (h : HostNext s (.write .reg .w32 a v) rest) (hal : a % 4 = 0) (hlt : a < 0x100)
    (hcmd : a ≠ 0x04) : step s = .next ((hostTurn s rest).writeReg (regAt a) v) := by
  simp [step, fetch, nextEvent_cons h, hostAccess, begin_of_hostNext h, admitted_reg _ hal hlt, hostWrite, regAt_eq_cmd,
    hcmd]

/-! ### The C_* registers -/

/-- The C_* registers are the ones a write can store to (R31, R32). -/
theorem put_eq_none_iff (c : Container) (r : Reg) (v : Word) : c.put r v = none ↔ ¬ IsFieldOffset r.offset := by
  unfold IsFieldOffset
  cases r <;> simp [Container.put, Reg.offset]

/-- R33: 16 bits of a word, zero-extended, are the word masked. -/
theorem setWidth_half (v : Word) : (v.setWidth 16).setWidth 32 = v &&& 0xFFFF := by
  apply BitVec.eq_of_toNat_eq
  have hmask : v.toNat &&& (0xFFFF : Word).toNat = v.toNat % 2 ^ 16 := Nat.and_two_pow_sub_one_eq_mod _ 16
  simp only [BitVec.toNat_setWidth, BitVec.toNat_and, hmask]
  omega

/-- A taken write of a C_* register is read back, a 16-bit one masked (R32, R33). -/
theorem readReg_put_same {c : Container} {r : Reg} (hc : s.c.put r v = some c) :
    (IsHalfOffset r.offset → { s with c := c }.clearValidation.readReg r = v &&& 0xFFFF) ∧
    (¬ IsHalfOffset r.offset → { s with c := c }.clearValidation.readReg r = v) := by
  unfold IsHalfOffset
  cases r <;> cases hc <;> simp [Reg.offset, State.readReg, setWidth_half]

/-- A taken write of a C_* register leaves every other one (R32). -/
theorem readReg_put_other {c : Container} {r q : Reg} (hc : s.c.put r v = some c) (hq : IsFieldOffset q.offset)
    (hne : q ≠ r) : { s with c := c }.clearValidation.readReg q = s.readReg q := by
  have hstatus : q ≠ .status := by rintro rfl; exact absurd hq.1 (by decide)
  have hvcheck : q ≠ .vcheck := by rintro rfl; exact absurd hq.1 (by decide)
  cases r <;> cases hc
  all_goals cases q <;> first | rfl | contradiction

/-- R38: a write to a register that is neither BUF_LEN nor a C_* register is ignored. -/
theorem writeReg_readOnly {r : Reg} (hbuf : r ≠ .bufLen) (hput : s.c.put r v = none) : s.writeReg (some r) v = s := by
  unfold State.writeReg
  split
  case h_1 => rfl
  case h_2 h => exact absurd (Option.some.inj h) hbuf
  case h_3 q _ h =>
    cases h
    simp only [hput]

/-- R32: an idle write of a C_* register stores the value and clears the validation. -/
theorem writeReg_field {r : Reg} {c : Container} (hp : s.phase = .idle) (hc : s.c.put r v = some c) :
    s.writeReg (some r) v = { s with c := c }.clearValidation := by
  cases r <;> cases hc <;> simp [State.writeReg, State.busy, hp, Container.put]

/-! ### STATUS (R21 to R23) -/

theorem Phase.value_lt (p : Phase) : p.value < 8 := by cases p <;> decide

/-- R21: the fields of STATUS as digits of its number: none overlaps another, and none reaches past bit 11. -/
theorem statusWord_fields (s : State) :
    s.statusWord.toNat < 2 ^ 12 ∧
    s.statusWord.toNat / 2 ^ 0 % 2 = s.busy.toNat ∧ s.statusWord.toNat / 2 % 8 = s.phase.value ∧
    s.statusWord.toNat / 2 ^ 4 % 2 = s.done.toNat ∧ s.statusWord.toNat / 2 ^ 5 % 2 = s.failed.toNat ∧
    s.statusWord.toNat / 2 ^ 6 % 2 = s.cpres.toNat ∧ s.statusWord.toNat / 2 ^ 7 % 2 = s.vdone.toNat ∧
    s.statusWord.toNat / 2 ^ 8 % 2 = s.valid.toNat ∧ s.statusWord.toNat / 2 ^ 9 % 2 = s.sizeMismatch.toNat ∧
    s.statusWord.toNat / 2 ^ 10 % 2 = s.cmdOverrun.toNat ∧
    s.statusWord.toNat / 2 ^ 11 % 2 = s.hostConflict.toNat := by
  have hphase := s.phase.value_lt
  have hbusy := s.busy.toNat_lt
  have hdone := s.done.toNat_lt
  have hfailed := s.failed.toNat_lt
  have hcpres := s.cpres.toNat_lt
  have hvdone := s.vdone.toNat_lt
  have hvalid := s.valid.toNat_lt
  have hmismatch := s.sizeMismatch.toNat_lt
  have hoverrun := s.cmdOverrun.toNat_lt
  have hconflict := s.hostConflict.toNat_lt
  simp only [State.statusWord, BitVec.toNat_ofNat]
  omega

/-- A bit of a word is the Boolean that its number holds there. -/
theorem getLsbD_of_toNat {w : Word} {k : Nat} {b : Bool} (h : w.toNat / 2 ^ k % 2 = b.toNat) : w.getLsbD k = b := by
  rw [← BitVec.testBit_toNat, Nat.testBit_eq_decide_div_mod_eq, h]
  cases b <;> rfl

end Sys2Proof.Machine

namespace Sys2Proof

open Machine Claims

/-- Settles O48: each register reads at its offset (`reads_offset`), and at a reserved offset there is none. -/
theorem registersReadAtTheirOffsets : Obligations.RegistersReadAtTheirOffsets := by
  intro s
  refine ⟨reads_offset s .id, reads_offset s .cmd, reads_offset s .status, ?err, reads_offset s .vcheck,
    reads_offset s .bufLen, reads_offset s .cRiffId, reads_offset s .cTotalSize, reads_offset s .cWaveId,
    reads_offset s .cFmtId, reads_offset s .cFmtSize, reads_offset s .cFmtTag, reads_offset s .cChannels,
    reads_offset s .cSampleRate, reads_offset s .cByteRate, reads_offset s .cBlockAlign, reads_offset s .cBits,
    reads_offset s .cDataId, reads_offset s .cDataSize, reads_offset s .rxDeclLen, reads_offset s .xferBytes,
    reads_offset s .xferFrags, reads_offset s .cfgFragMax, reads_offset s .cfgPayBytes, reads_offset s .cfgBufBytes,
    ?reserved⟩
  case err =>
    have herr : Reads s 0x0C (BitVec.ofNat 32 s.err.code) := reads_offset s .err
    cases hcode : s.err <;> rwa [hcode] at herr
  case reserved =>
    intro off hge hlt hal
    have hread : s.readRegAt off = 0 := by simp [State.readRegAt, regAt_reserved hge]
    exact hread ▸ reads_readRegAt hal hlt

/-- Settles O49: the fields of STATUS are the digits of its number (`statusWord_fields`). -/
theorem statusFieldsAreAtTheirBits : Obligations.StatusFieldsAreAtTheirBits := by
  intro s
  obtain ⟨hlt, hbusy, hphase, hdone, hfailed, hcpres, hvdone, hvalid, hmismatch, hoverrun, hconflict⟩ :=
    statusWord_fields s
  refine ⟨?busy, ?phase, getLsbD_of_toNat hdone, getLsbD_of_toNat hfailed, getLsbD_of_toNat hcpres,
    getLsbD_of_toNat hvdone, getLsbD_of_toNat hvalid, getLsbD_of_toNat hmismatch, getLsbD_of_toNat hoverrun,
    getLsbD_of_toNat hconflict, hlt⟩
  case busy => rw [getLsbD_of_toNat hbusy, State.busy, decide_eq_true_iff]
  case phase =>
    rw [hphase]
    cases s.phase <;> rfl

/-- Settles O54: such an offset holds no register, or one that a write does not store to. -/
theorem readOnlyAndReservedWritesAreIgnored : Obligations.ReadOnlyAndReservedWritesAreIgnored := by
  intro s a v rest hnext hal hlt hcmd hbufLen hfield
  rw [step_regWrite hnext hal hlt hcmd]
  cases hr : regAt a with
  | none => rfl
  | some r =>
    obtain rfl := offset_of_regAt hr
    have hput := (put_eq_none_iff (hostTurn s rest).c r v).mpr hfield
    rw [writeReg_readOnly (by rintro rfl; exact hbufLen rfl) hput]

/-- Settles O55: the register at the offset takes the value, and the reads after it are those of `Container.put`. -/
theorem fieldWritesStoreAndInvalidate : Obligations.FieldWritesStoreAndInvalidate := by
  intro s a v rest hidle hnext hfield
  have regOf {b : Nat} (hb : IsFieldOffset b) : ∃ r : Reg, b = r.offset := by
    obtain ⟨-, hle, hal⟩ := hb
    exact exists_reg_of_offset hal (by omega)
  obtain ⟨r, rfl⟩ := regOf hfield
  obtain ⟨c, hc⟩ : ∃ c, (hostTurn s rest).c.put r v = some c :=
    Option.ne_none_iff_exists'.mp fun hn => (put_eq_none_iff _ r v).mp hn hfield
  obtain ⟨hge, hle, hal⟩ := hfield
  have hstep : step s = .next { hostTurn s rest with c := c }.clearValidation := by
    rw [step_regWrite hnext hal (by omega) (by omega), regAt_offset, writeReg_field (s := hostTurn s rest) hidle hc]
  obtain ⟨hhalf, hword⟩ := readReg_put_same hc
  refine ⟨_, hstep, rfl, ?half, ?word, ?other⟩
  case half => rwa [readRegAt_offset]
  case word => rwa [readRegAt_offset]
  case other =>
    intro b hb hne
    obtain ⟨q, rfl⟩ := regOf hb
    rw [readRegAt_offset, readRegAt_offset, readReg_put_other hc hb (fun h => hne (congrArg Reg.offset h))]
    rw [← readRegAt_offset, ← readRegAt_offset, ← begin_of_hostNext hnext, readRegAt_begin]

/-- Settles O58: register by register; a parameter fits its 32 bits by R9. -/
theorem registersAfterPowerUp : Obligations.RegistersAfterPowerUp := by
  intro cfg p off hal hlt
  have fits {n : Nat} (hn : n ≤ 2 ^ 32 - 1) : (BitVec.ofNat 32 n).toNat = n := by
    rw [BitVec.toNat_ofNat]
    omega
  refine ⟨?id, ?fragMax, ?payBytes, ?bufBytes, ?others⟩
  case id => rintro rfl; rfl
  case fragMax =>
    rintro rfl
    have hle : cfg.fragMax ≤ 5120 := cfg.frag_le
    exact fits (n := cfg.fragMax) (by omega)
  case payBytes =>
    rintro rfl
    have hle := cfg.pay_le
    exact fits (n := cfg.payBytes) (by omega)
  case bufBytes => rintro rfl; exact fits cfg.buf_le
  case others =>
    intro hid hfrag hpay hbuf
    cases hr : regAt off with
    | none => simp [State.readRegAt, hr]
    | some r =>
      obtain rfl := offset_of_regAt hr
      rw [readRegAt_offset]
      cases r
      case id => exact absurd rfl hid
      case cfgFragMax => exact absurd rfl hfrag
      case cfgPayBytes => exact absurd rfl hpay
      case cfgBufBytes => exact absurd rfl hbuf
      all_goals rfl

/-- Settles O56. -/
theorem bufLenTakesAnyValue : Obligations.BufLenTakesAnyValue := by
  intro s v rest hidle hnext
  rw [step_regWrite hnext (by decide) (by decide) (by decide)]
  simp [regAt, State.writeReg, State.busy, hostTurn, hidle]

end Sys2Proof

/-! ## The accesses of the Host and the agents' steps (20_memory.md R43 to R56) -/

namespace Sys2Proof.Machine

open Claims

variable {s t : State} {rest : List Event}

/-! ### A step by what is fetched for it -/

theorem step_of_run {i : Instr} (h : fetch s = .run i t) : step s = exec i t := by simp only [step, h]

theorem step_of_done (h : fetch s = .done t) : step s = .next t := by simp only [step, h]

theorem step_of_stop {f : Fault} (h : fetch s = .stop f) : step s = .fault f := by simp only [step, h]

/-- A codec command answers a next state on every agent's turn (R75, R78, R79). -/
theorem exists_codecCommand_eq_next (op : Byte) (f g : State → State) (s : State) :
    ∃ t, codecCommand op f g s = .next t := by
  unfold codecCommand
  cases s.turn
  case engine =>
    dsimp only
    split <;> exact ⟨_, rfl⟩
  all_goals exact ⟨_, rfl⟩

/-- A transfer command answers a next state on every agent's turn (R75, R79). -/
theorem exists_transferCommand_eq_next (f : State → State) (g : Answer → State → State) (s : State) :
    ∃ t, transferCommand f g s = .next t := by
  unfold transferCommand
  cases s.turn <;> exact ⟨_, rfl⟩

/-- A frame answers a next state in every phase (R104). -/
theorem exists_takeFrame_eq_next (f g : State → State) (s : State) : ∃ t, takeFrame f g s = .next t := by
  unfold takeFrame
  cases s.phase <;> exact ⟨_, rfl⟩

/-- ABORT answers a next state on every agent's turn (R83). -/
theorem exists_execAbort_eq_next (s : State) : ∃ t, execAbort s = .next t := by
  unfold execAbort
  cases s.turn <;> exact ⟨_, rfl⟩

/-- No instruction faults or refuses: a command that fails does so in a next state (R120). -/
theorem exists_exec_eq_next (i : Instr) (s : State) : ∃ t, exec i s = .next t := by
  cases i with
  | decode => exact exists_codecCommand_eq_next ..
  | validate => exact exists_codecCommand_eq_next ..
  | encode => exact exists_codecCommand_eq_next ..
  | construct => exact exists_codecCommand_eq_next ..
  | send => exact exists_transferCommand_eq_next ..
  | receive => exact exists_transferCommand_eq_next startReceive (fun _ u => u) s
  | abort => exact exists_execAbort_eq_next s
  | metaFrame ch sr br ba bps len =>
    exact exists_takeFrame_eq_next (acceptMeta ch sr br ba bps len) (fun u => u.failReceive .protoMalformed) s
  | chunkFrame body => exact exists_takeFrame_eq_next (fun u => u.failReceive .protoNoMetadata) (acceptChunk body) s
  | endFrame => exact exists_takeFrame_eq_next (fun u => u.failReceive .protoNoMetadata) acceptEnd s

/-- As no instruction stops, a step stops only where its fetch does. -/
theorem exists_step_eq_next (h : ∀ f, fetch s ≠ .stop f) : ∃ t, step s = .next t := by
  cases hf : fetch s with
  | run i u => rw [step_of_run hf]; exact exists_exec_eq_next i u
  | done u => exact ⟨u, step_of_done hf⟩
  | stop f => exact absurd hf (h f)

/-! ### What is fetched for a host access -/

theorem fetch_host {x : Access} (he : s.nextEvent = .host x) : fetch s = hostAccess x s.begin := by
  simp only [fetch, he]

/-- The fetch of a host access, in the state it acts in as the statements spell it. -/
theorem fetch_of_hostNext {x : Access} (h : HostNext s x rest) : fetch s = hostAccess x (hostTurn s rest) := by
  rw [fetch_host (nextEvent_cons h), begin_of_hostNext h]

section Access

variable {sp : Space} {w : Width} {a : Nat} {v : Word}

theorem hostAccess_read (hl : (Access.read sp w a).Legal s.cfg) :
    hostAccess (.read sp w a) s = .done (hostRead sp w a s) :=
  if_pos ((admitted_iff_legal s.cfg (.read sp w a)).mpr hl)

theorem hostAccess_write (hl : (Access.write sp w a v).Legal s.cfg) :
    hostAccess (.write sp w a v) s = hostWrite sp w a v s :=
  if_pos ((admitted_iff_legal s.cfg (.write sp w a v)).mpr hl)

/-- R49: an access that no rule admits. -/
theorem hostAccess_illegal {x : Access} (hl : ¬ x.Legal s.cfg) : hostAccess x s = .stop .busError := by
  cases x with
  | read sp w a => exact if_neg (mt (admitted_iff_legal s.cfg (.read sp w a)).mp hl)
  | write sp w a v => exact if_neg (mt (admitted_iff_legal s.cfg (.write sp w a v)).mp hl)

theorem presentWord_ne_stop (v : Word) (s : State) (f : Fault) : presentWord v s ≠ .stop f := by
  unfold presentWord
  split <;> simp

/-- A host write that is admitted stops nothing: it is taken, dropped, or ignored. -/
theorem hostWrite_ne_stop (sp : Space) (w : Width) (a : Nat) (v : Word) (s : State) (f : Fault) :
    hostWrite sp w a v s ≠ .stop f := by
  cases sp with
  | reg =>
    simp only [hostWrite]
    split
    · exact presentWord_ne_stop v s f
    · simp
  | buf => simp [hostWrite]
  | pay => simp [hostWrite]

theorem hostAccess_ne_stop {x : Access} (hl : x.Legal s.cfg) (f : Fault) : hostAccess x s ≠ .stop f := by
  cases x with
  | read sp w a => simp [hostAccess_read hl]
  | write sp w a v => rw [hostAccess_write hl]; exact hostWrite_ne_stop sp w a v s f

/-- R47, R48: the step of a legal access goes on. -/
theorem exists_step_of_legal {x : Access} (he : s.nextEvent = .host x) (hl : x.Legal s.cfg) :
    ∃ t, step s = .next t :=
  exists_step_eq_next fun f => by rw [fetch_host he]; exact hostAccess_ne_stop (s := s.begin) hl f

/-- R49: the step of any other access is the bus error. -/
theorem step_of_not_legal {x : Access} (he : s.nextEvent = .host x) (hl : ¬ x.Legal s.cfg) :
    step s = .fault .busError :=
  step_of_stop ((fetch_host he).trans (hostAccess_illegal (s := s.begin) hl))

/-- R51: the step of a legal read. -/
theorem step_hostRead (h : HostNext s (.read sp w a) rest) (hl : (Access.read sp w a).Legal s.cfg) :
    step s = .next (hostRead sp w a (hostTurn s rest)) :=
  step_of_done ((fetch_of_hostNext h).trans (hostAccess_read (s := hostTurn s rest) hl))

/-- The fetch of a legal write. -/
theorem fetch_hostWrite (h : HostNext s (.write sp w a v) rest) (hl : (Access.write sp w a v).Legal s.cfg) :
    fetch s = hostWrite sp w a v (hostTurn s rest) :=
  (fetch_of_hostNext h).trans (hostAccess_write (s := hostTurn s rest) hl)

/-- R48: an idle block stores a write of BUF. -/
theorem step_bufWrite (hp : s.phase = .idle) (h : HostNext s (.write .buf w a v) rest)
    (hl : (Access.write .buf w a v).Legal s.cfg) :
    step s = .next ((hostTurn s rest).writeBuf a (bytesOfWord w v)) :=
  step_of_done ((fetch_hostWrite h hl).trans (by simp [hostWrite, State.busy, hostTurn, hp]))

/-- R48: an idle block stores a write of PAY. -/
theorem step_payWrite (hp : s.phase = .idle) (h : HostNext s (.write .pay w a v) rest)
    (hl : (Access.write .pay w a v).Legal s.cfg) :
    step s = .next ((hostTurn s rest).writePay a (bytesOfWord w v)) :=
  step_of_done ((fetch_hostWrite h hl).trans (by simp [hostWrite, State.busy, hostTurn, hp]))

/-- R50: a busy block drops a write of either memory. -/
theorem step_memWrite_busy (hp : s.phase ≠ .idle) (hsp : sp ≠ .reg) (h : HostNext s (.write sp w a v) rest)
    (hl : (Access.write sp w a v).Legal s.cfg) : step s = .next (hostTurn s rest).flagConflict := by
  refine step_of_done ((fetch_hostWrite h hl).trans ?_)
  cases sp with
  | reg => exact absurd rfl hsp
  | buf => simp [hostWrite, State.busy, hostTurn, hp]
  | pay => simp [hostWrite, State.busy, hostTurn, hp]

/-- R50: a busy block drops a write of a register that an idle one would take: BUF_LEN or a C_* register. -/
theorem writeReg_busy {r : Reg} (hp : s.phase ≠ .idle) (hr : r = .bufLen ∨ s.c.put r v ≠ none) :
    s.writeReg (some r) v = s.flagConflict := by
  rcases hr with rfl | hput
  · simp [State.writeReg, State.busy, hp]
  · obtain ⟨c, hc⟩ := Option.ne_none_iff_exists'.mp hput
    cases r <;> cases hc <;> simp [State.writeReg, State.busy, hp, Container.put]

/-- R18: BUF_LEN and the C_* registers by their offsets. -/
theorem exists_writable_reg (c : Container) (v : Word) (ha : a = 0x14 ∨ IsFieldOffset a) :
    ∃ r : Reg, a = r.offset ∧ (r = .bufLen ∨ c.put r v ≠ none) := by
  rcases ha with rfl | ha
  · exact ⟨.bufLen, rfl, .inl rfl⟩
  · have ⟨_, hle, hal⟩ := ha
    obtain ⟨r, rfl⟩ := exists_reg_of_offset hal (by omega)
    exact ⟨r, rfl, .inr fun hn => (put_eq_none_iff c r v).mp hn ha⟩

end Access

/-! ### Byte order (R46, R48) -/

/-- R46: the word read, as the number its bytes write in base 256, lowest first. -/
theorem wordOfBytes_toNat (bs : List Byte) (h : bs.length ≤ 4) :
    (wordOfBytes bs).toNat = Nat.ofDigits 256 (bs.map BitVec.toNat) := by
  have hlt : Nat.ofDigits 256 (bs.map BitVec.toNat) < 256 ^ 4 := by
    refine Nat.lt_of_lt_of_le (Nat.ofDigits_lt_base_pow_length (by decide) ?_)
      (Nat.pow_le_pow_right (by decide) (by simpa using h))
    intro x hx
    obtain ⟨b, -, rfl⟩ := List.mem_map.mp hx
    exact b.isLt
  induction bs with
  | nil => rfl
  | cons b bs ih =>
    simp only [List.map_cons, Nat.ofDigits_cons] at hlt ⊢
    simp only [List.length_cons] at h
    simp only [wordOfBytes, ih (by omega) (by omega), BitVec.toNat_ofNat]
    omega

/-- R48: what an access of each width reads of a memory, given by its bytes. -/
theorem wordOfBytes_read {byte : Nat → Byte} {w : Width} {a : Nat} {bs : List Byte}
    (hbs : bs = (List.range w.bytes).map fun i => byte (a + i)) :
    (w = .w8 → (wordOfBytes bs).toNat = (byte a).toNat) ∧
    (w = .w16 → (wordOfBytes bs).toNat = (byte a).toNat + 256 * (byte (a + 1)).toNat) ∧
    (w = .w32 → (wordOfBytes bs).toNat = (byte a).toNat + 2 ^ 8 * (byte (a + 1)).toNat +
      2 ^ 16 * (byte (a + 2)).toNat + 2 ^ 24 * (byte (a + 3)).toNat) := by
  have hlen : bs.length ≤ 4 := by subst hbs; cases w <;> simp [Width.bytes]
  rw [wordOfBytes_toNat bs hlen, hbs]
  refine ⟨?_, ?_, ?_⟩
  all_goals
    rintro rfl
    simp only [Width.bytes, List.range_succ, List.range_zero, List.nil_append, List.cons_append, List.map_cons,
      List.map_nil, Nat.ofDigits_cons, Nat.ofDigits_nil, Nat.add_zero]
    omega

/-- R48: a write stores as many bytes as its width has. -/
theorem bytesOfWord_length (w : Width) (v : Word) : (bytesOfWord w v).length = w.bytes := by cases w <;> rfl

/-- R46: byte i of the four bytes of a word is its digit i in base 256. -/
theorem byteAt_bytes32_toNat (v : Word) {i : Nat} (hi : i < 4) :
    (byteAt (bytes32 v) i).toNat = v.toNat / 256 ^ i % 256 := by
  interval_cases i <;> simp [byteAt, bytes32]

/-- R46, R48: a narrow write stores the low bytes of its value. -/
theorem byteAt_bytesOfWord_toNat (v : Word) {w : Width} {i : Nat} (hi : i < w.bytes) :
    (byteAt (bytesOfWord w v) i).toNat = v.toNat / 256 ^ i % 256 := by
  have hw : w.bytes ≤ 4 := by cases w <;> decide
  have htake : byteAt (bytesOfWord w v) i = byteAt (bytes32 v) i := by
    simp [byteAt, bytesOfWord, List.getD, hi]
  rw [htake, byteAt_bytes32_toNat v (by omega)]

/-! ### The steps of the Engine and of the Channel (R78, R79, R104) -/

/-- R78: PEND_OP names the codec command whose word has it as opcode. -/
theorem pendingCommand_of_decode {op : Byte} {i : Instr}
    (hi : i = .decode ∨ i = .validate ∨ i = .encode ∨ i = .construct)
    (hd : decodeCommand (op.setWidth 32) = .ok i) : pendingCommand op = some i := by
  unfold pendingCommand
  rcases hi with rfl | rfl | rfl | rfl <;> simp only [hd]

/-- R78: the EXEC step runs the pending codec command. -/
theorem step_exec {i : Instr} (he : s.nextEvent = .engine) (hp : s.phase = .exec)
    (hi : pendingCommand s.pendOp = some i) : step s = exec i s.begin :=
  step_of_run (by simp [fetch, he, engineStep, hp, hi])

/-- R96 to R99: the Channel's answer to an offered frame runs SEND. -/
theorem step_answer {r : Answer} (he : s.nextEvent = .answer r) (hs : s.sending = true) :
    step s = exec .send s.begin :=
  step_of_run (by simp [fetch, he, hs])

/-- R104: a well-formed frame delivered to a receiving block is run, and leaves the Channel. -/
theorem step_deliver {f : List Byte} {q : List RxEvent} {i : Instr} (he : s.nextEvent = .deliver)
    (hr : s.receiving = true) (hq : s.rxq = .frame f :: q) (hd : decode .channel f = .ok i) :
    step s = exec i { s.begin with rxq := q } := by
  have hrec : s.begin.receiving = true := hr
  exact step_of_run (by simp [fetch, he, deliverStep, hrec, hq, hd])

/-- No delivery stops the machine: a malformed frame fails the reception (R114). -/
theorem deliverStep_ne_stop (s : State) (f : Fault) : deliverStep s ≠ .stop f := by
  unfold deliverStep
  split
  case isFalse => simp
  case isTrue =>
    split
    case h_1 => simp
    case h_2 => simp
    case h_3 => split <;> simp

/-- R78: in a good state the EXEC step finds the command that is pending. -/
theorem State.Inv.engineStep_ne_stop (h : s.Inv) (f : Fault) : engineStep s ≠ .stop f := by
  unfold engineStep
  split
  case isFalse => simp
  case isTrue hp =>
    have hpending : ∃ i, pendingCommand s.pendOp = some i := by
      rcases h.exec_pending hp with ho | ho | ho | ho <;> rw [ho] <;> exact ⟨_, rfl⟩
    obtain ⟨i, hi⟩ := hpending
    simp [hi]

/-- From a good state the machine goes on where the Host makes no illegal access. -/
theorem State.Inv.exists_step (h : s.Inv) (hb : s.HostBehaves) : ∃ t, step s = .next t := by
  cases he : s.nextEvent with
  | host x => exact exists_step_of_legal he (hb x he)
  | engine => exact exists_step_eq_next fun f => by simpa only [fetch, he] using h.begin.engineStep_ne_stop f
  | answer r =>
    refine exists_step_eq_next fun f => ?_
    simp only [fetch, he]
    split <;> simp
  | deliver => exact exists_step_eq_next fun f => by simpa only [fetch, he] using deliverStep_ne_stop s.begin f
  | reset => exact ⟨_, step_reset he⟩

/-- A Host that does not behave makes an access that no rule admits (R49). -/
theorem step_of_not_hostBehaves (hb : ¬ s.HostBehaves) : step s = .fault .busError := by
  unfold State.HostBehaves at hb
  push Not at hb
  obtain ⟨x, he, hl⟩ := hb
  exact step_of_not_legal he hl

end Sys2Proof.Machine

namespace Sys2Proof

open Machine Claims

/-- Settles O11: an illegal access is the bus error in every state, and in a good one nothing else stops a step. -/
theorem goodStatesStopOnlyAtABusError : Obligations.GoodStatesStopOnlyAtABusError := by
  intro s hinv
  refine ⟨⟨hinv.exists_step, ?behaves⟩, step_of_not_hostBehaves⟩
  rintro ⟨t, ht⟩
  by_contra hb
  simp [step_of_not_hostBehaves hb] at ht

/-- Settles O12: the step of a legal access goes on, that of an illegal one is the fault. -/
theorem busErrorExactlyOnIllegalAccess : Obligations.BusErrorExactlyOnIllegalAccess := by
  intro s x rest hnext
  refine ⟨fun hfault hl => ?_, step_of_not_legal (nextEvent_cons hnext)⟩
  obtain ⟨t, ht⟩ := exists_step_of_legal (nextEvent_cons hnext) hl
  simp [ht] at hfault

/-- Settles O51: the bytes the read takes, and the word they make (`wordOfBytes_read`). -/
theorem memoryReadsAreLittleEndian : Obligations.MemoryReadsAreLittleEndian := by
  intro s w a rest
  exact ⟨fun hnext hl => ⟨_, _, step_hostRead hnext hl, rfl, wordOfBytes_read (byte := s.bufByte) rfl⟩,
    fun hnext hl => ⟨_, _, step_hostRead hnext hl, rfl, wordOfBytes_read (byte := s.payByte) rfl⟩⟩

/-- Settles O52: the bytes stored are those of the value, and a byte outside their range reads as before. -/
theorem idleMemoryWritesStoreTheirBytes : Obligations.IdleMemoryWritesStoreTheirBytes := by
  intro s w a v rest hidle
  refine ⟨fun hnext hl => ⟨_, step_bufWrite hidle hnext hl, rfl, ?bufStored, ?bufKept⟩,
    fun hnext hl => ⟨_, step_payWrite hidle hnext hl, rfl, ?payStored, ?payKept⟩⟩
  case bufStored =>
    intro i hi
    rw [bufByte_writeBuf, bytesOfWord_length, if_pos (by omega), Nat.add_sub_cancel_left, byteAt_bytesOfWord_toNat v hi]
  case bufKept =>
    intro b hb
    rw [bufByte_writeBuf, bytesOfWord_length, if_neg (by omega)]
    rfl
  case payStored =>
    intro i hi
    rw [payByte_writePay, bytesOfWord_length, if_pos (by omega), Nat.add_sub_cancel_left, byteAt_bytesOfWord_toNat v hi]
  case payKept =>
    intro b hb
    rw [payByte_writePay, bytesOfWord_length, if_neg (by omega)]
    rfl

/-- Settles O53: a memory drops the write (`step_memWrite_busy`), and so does a writable register (`writeReg_busy`). -/
theorem busyWritesAreDropped : Obligations.BusyWritesAreDropped := by
  intro s sp w a v rest hbusy hnext hl hreg
  by_cases hsp : sp = .reg
  case neg => exact step_memWrite_busy hbusy hsp hnext hl
  subst hsp
  obtain ⟨rfl, hal, hlt⟩ := hl
  obtain ⟨r, rfl, hr⟩ := exists_writable_reg (hostTurn s rest).c v (hreg rfl)
  have hcmd : r.offset ≠ 0x04 := by
    rcases hreg rfl with h | ⟨hge, -⟩ <;> omega
  rw [step_regWrite hnext hal hlt hcmd, regAt_offset, writeReg_busy (s := hostTurn s rest) hbusy hr]
  rfl

/-- Settles O6, agent by agent. -/
theorem stepRunsTheDecodedInstruction : Obligations.StepRunsTheDecodedInstruction := by
  refine ⟨?host, ?engine, ?answer, ?deliver⟩
  case host =>
    intro s i w rest hnext hd
    rw [decode_cmd_bytes32] at hd
    rw [step_cmdWrite (nextEvent_cons hnext) hd, begin_of_hostNext hnext]
  case engine =>
    intro s i hi hd hp
    rw [decode_cmd_bytes32] at hd
    have hpend := pendingCommand_of_decode hi hd
    refine ⟨fun rest hev => ?_, fun hev => ?_⟩
    · rw [step_exec (nextEvent_cons hev) hp hpend, begin_cons hev]
      rfl
    · rw [step_exec (nextEvent_nil hev) hp hpend, begin_nil hev]
  case answer =>
    intro s r rest hp hev
    rw [step_answer (nextEvent_cons hev) (decide_eq_true hp), begin_cons hev]
    rfl
  case deliver =>
    intro s i f q rest hp hev hq hd
    rw [step_deliver (nextEvent_cons hev) (decide_eq_true hp) hq hd, begin_cons hev]
    rfl

/-- Settles O50: in each space a read writes the value returned and nothing else. -/
theorem hostReadsHaveNoSideEffect : Obligations.HostReadsHaveNoSideEffect := by
  intro s sp w a rest hnext hl
  rw [step_hostRead hnext hl]
  cases sp with
  | reg => exact ⟨_, rfl⟩
  | buf => exact ⟨_, rfl⟩
  | pay => exact ⟨_, rfl⟩

end Sys2Proof

/-! ## The encodings (30_encoding.md R61 to R72)

What a port accepts is the encoding of a well-formed instruction for that port, and every such encoding is accepted
(`encode_of_decode`, `decode_encode`). A command word is one of the seven of R62; a frame decodes where `FrameOK`
holds, to the frame its TYPE selects. -/

namespace Sys2Proof

open Claims

/-! ### A byte string as the writers' output (R13) -/

section Bytes

variable {f : List Byte} {o : Nat}

/-- A byte read in front of the bytes after it. -/
theorem byteAt_cons_drop (h : o < f.length) : byteAt f o :: f.drop (o + 1) = f.drop o := by
  rw [List.drop_eq_getElem_cons h, byteAt, List.getD_eq_getElem _ _ h]

/-- A half word read and written back in front of the bytes after it. -/
theorem bytes16_le16_append_drop (h : o + 2 ≤ f.length) : bytes16 (le16 f o) ++ f.drop (o + 2) = f.drop o := by
  rw [bytes16_le16, List.cons_append, List.cons_append, List.nil_append, byteAt_cons_drop (by omega),
    byteAt_cons_drop (by omega)]

/-- A word read and written back in front of the bytes after it. -/
theorem bytes32_le32_append_drop (h : o + 4 ≤ f.length) : bytes32 (le32 f o) ++ f.drop (o + 4) = f.drop o := by
  rw [bytes32_le32, List.cons_append, List.cons_append, List.cons_append, List.cons_append, List.nil_append,
    byteAt_cons_drop (by omega), byteAt_cons_drop (by omega), byteAt_cons_drop (by omega), byteAt_cons_drop (by omega)]

/-- Four bytes are those of the word they make. -/
theorem bytes32_le32_of_length (h : f.length = 4) : bytes32 (le32 f 0) = f := by
  have hdrop : f.drop (0 + 4) = [] := List.drop_of_length_le (by omega)
  simpa [hdrop] using bytes32_le32_append_drop (f := f) (o := 0) (by omega)

end Bytes

/-! ### Command words (R61 to R63) -/

section Command

variable {w : Word} {i : Instr}

/-- R62: the opcode map, in both directions. -/
theorem decodeCommand_eq_ok_iff : decodeCommand w = .ok i ↔
    (w = 0x00000001 ∧ i = .decode) ∨ (w = 0x00000002 ∧ i = .validate) ∨ (w = 0x00000003 ∧ i = .encode) ∨
    (w = 0x00000004 ∧ i = .construct) ∨ (w = 0x00000005 ∧ i = .send) ∨ (w = 0x00000006 ∧ i = .receive) ∨
    (w = 0x00000007 ∧ i = .abort) := by
  refine ⟨Machine.decodeCommand_ok, ?_⟩
  rintro (⟨rfl, rfl⟩ | ⟨rfl, rfl⟩ | ⟨rfl, rfl⟩ | ⟨rfl, rfl⟩ | ⟨rfl, rfl⟩ | ⟨rfl, rfl⟩ | ⟨rfl, rfl⟩) <;> rfl

/-- An accepted word is the one its command is encoded by. -/
theorem encode_of_decodeCommand (h : decodeCommand w = .ok i) :
    i.port = .cmd ∧ i.WellFormed = true ∧ encode i = bytes32 w := by
  rcases decodeCommand_eq_ok_iff.mp h with
    ⟨rfl, rfl⟩ | ⟨rfl, rfl⟩ | ⟨rfl, rfl⟩ | ⟨rfl, rfl⟩ | ⟨rfl, rfl⟩ | ⟨rfl, rfl⟩ | ⟨rfl, rfl⟩ <;>
    exact ⟨rfl, rfl, rfl⟩

/-- What CMD accepts is the encoding of what it decodes to (R61, R62). -/
theorem encode_of_decode_cmd {bs : List Byte} (h : decode .cmd bs = .ok i) :
    i.port = .cmd ∧ i.WellFormed = true ∧ encode i = bs := by
  by_cases hlen : bs.length = 4
  · simp only [decode, if_pos hlen] at h
    simpa only [bytes32_le32_of_length hlen] using encode_of_decodeCommand h
  · simp [decode, hlen] at h

end Command

/-! ### Frames (R68 to R72) -/

section Frame

variable {f : List Byte} {i : Instr}

/-- The frame that the TYPE byte of a well-formed frame selects (R69). -/
def frameOf (f : List Byte) : Instr :=
  if byteAt f 0 = 0x01 then metaOf f
  else if byteAt f 0 = 0x02 then .chunkFrame (f.drop frameHdr)
  else .endFrame

/-- A frame that meets R72 passes every check of the decoder. -/
theorem decodeFrame_of_frameOK (h : FrameOK f) : decodeFrame f = .ok (frameOf f) := by
  obtain ⟨hlen, hrsvd, htype, hbody, hmeta, hend, hchunk⟩ := h
  have hhdr : ¬ f.length < frameHdr := Nat.not_lt.mpr hlen
  rcases htype with ht | ht | ht
  · simp [decodeFrame, frameOf, hhdr, hrsvd, ht, ← hbody, hmeta ht]
  · simp [decodeFrame, frameOf, hhdr, hrsvd, ht, ← hbody, hchunk ht]
  · simp [decodeFrame, frameOf, hhdr, hrsvd, ht, ← hbody, hend ht]

/-- A frame that passes the decoder's checks meets R72. -/
theorem frameOK_of_decodeFrame (h : decodeFrame f = .ok i) : FrameOK f := by
  unfold decodeFrame at h
  repeat' split at h
  all_goals cases h
  next hlen hrsvd htype hbody hbound =>
    exact ⟨not_lt.mp hlen, not_not.mp hrsvd, .inl htype, not_not.mp hbody, fun _ => not_not.mp hbound,
      by simp [htype], by simp [htype]⟩
  next hlen hrsvd _ htype hbody hbound =>
    exact ⟨not_lt.mp hlen, not_not.mp hrsvd, .inr (.inl htype), not_not.mp hbody, by simp [htype],
      by simp [htype], fun _ => not_lt.mp hbound⟩
  next hlen hrsvd _ _ htype hbody hbound =>
    exact ⟨not_lt.mp hlen, not_not.mp hrsvd, .inr (.inr htype), not_not.mp hbody, by simp [htype],
      fun _ => not_not.mp hbound, by simp [htype]⟩

/-- R72: the frame decoder by its check and its answer. -/
theorem decodeFrame_eq_ok_iff : decodeFrame f = .ok i ↔ FrameOK f ∧ frameOf f = i := by
  constructor
  · intro h
    have hok := frameOK_of_decodeFrame h
    rw [decodeFrame_of_frameOK hok] at h
    exact ⟨hok, Decoded.ok.inj h⟩
  · rintro ⟨hok, rfl⟩
    exact decodeFrame_of_frameOK hok

/-- A well-formed frame is its header and its body (R68). -/
theorem frameHeader_append_body (h : FrameOK f) :
    frameHeader (byteAt f 0) (le16 f 2).toNat ++ f.drop 4 = f := by
  obtain ⟨hlen, hrsvd, -⟩ := h
  have hlenField := bytes16_le16_append_drop (f := f) (o := 2) (by omega)
  have htype := byteAt_cons_drop (f := f) (o := 0) (by omega)
  have hrsvdByte := byteAt_cons_drop (f := f) (o := 1) (by omega)
  rw [hrsvd, ← hlenField] at hrsvdByte
  rw [← hrsvdByte] at htype
  simpa [frameHeader] using htype

/-- The body of a META frame is its six fields (R70). -/
theorem metaBody_eq_drop (h : f.length = 22) :
    bytes16 (le16 f 4) ++ bytes32 (le32 f 6) ++ bytes32 (le32 f 10) ++ bytes16 (le16 f 14) ++ bytes16 (le16 f 16) ++
      bytes32 (le32 f 18) = f.drop 4 := by
  have hend : f.drop 22 = [] := List.drop_of_length_le (by omega)
  rw [← bytes16_le16_append_drop (o := 4) (by omega), ← bytes32_le32_append_drop (o := 6) (by omega),
    ← bytes32_le32_append_drop (o := 10) (by omega), ← bytes16_le16_append_drop (o := 14) (by omega),
    ← bytes16_le16_append_drop (o := 16) (by omega), ← bytes32_le32_append_drop (o := 18) (by omega), hend]
  simp only [List.append_assoc, List.append_nil]

/-- What the Channel port accepts is the encoding of what it decodes to (R68 to R72). -/
theorem encode_frameOf (h : FrameOK f) :
    (frameOf f).port = .channel ∧ (frameOf f).WellFormed = true ∧ encode (frameOf f) = f := by
  have hsplit := frameHeader_append_body h
  obtain ⟨hlen, -, htype, hbody, hmeta, hend, hchunk⟩ := h
  rcases htype with ht | ht | ht
  · have hframe : frameOf f = metaOf f := by simp [frameOf, ht]
    rw [hmeta ht] at hbody hsplit
    rw [ht, ← metaBody_eq_drop (by omega)] at hsplit
    rw [hframe]
    exact ⟨rfl, rfl, hsplit⟩
  · have hframe : frameOf f = .chunkFrame (f.drop 4) := by simp [frameOf, ht]
    have hdrop : (f.drop 4).length = (le16 f 2).toNat := by rw [List.length_drop, hbody]
    rw [ht, ← hdrop] at hsplit
    rw [hframe]
    exact ⟨rfl, decide_eq_true (hdrop ▸ hchunk ht), hsplit⟩
  · have hframe : frameOf f = .endFrame := by simp [frameOf, ht]
    rw [hend ht] at hbody hsplit
    rw [ht, List.drop_of_length_le (by omega), List.append_nil] at hsplit
    rw [hframe]
    exact ⟨rfl, rfl, hsplit⟩

/-- A header whose LEN is the length of the body after it makes a well-formed frame, where the body's length is one
its TYPE allows (R72). -/
theorem frameOK_frameHeader_append {type : Byte} {body : List Byte}
    (h : (type = 0x01 ∧ body.length = 18) ∨ (type = 0x02 ∧ body.length ≤ 5120) ∨ (type = 0x03 ∧ body.length = 0)) :
    FrameOK (frameHeader type body.length ++ body) := by
  have hle : body.length ≤ 5120 := by omega
  have hlenField : (le16 (frameHeader type body.length ++ body) 2).toNat = body.length := by
    have hread : le16 (frameHeader type body.length ++ body) 2 = BitVec.ofNat 16 body.length := le16_bytes16 _ body
    rw [hread, BitVec.toNat_ofNat]
    omega
  have htype : byteAt (frameHeader type body.length ++ body) 0 = type := rfl
  have hrsvd : byteAt (frameHeader type body.length ++ body) 1 = 0 := rfl
  unfold FrameOK
  rw [hlenField, htype, hrsvd, List.length_append, frameHeader_length]
  rcases h with ⟨rfl, hb⟩ | ⟨rfl, hb⟩ | ⟨rfl, hb⟩ <;> simp [hb]

/-- The six fields of a META frame are read where they are written (R70). -/
theorem metaOf_encode (ch : Half) (sr br : Word) (ba bps : Half) (len : Word) :
    metaOf (encode (.metaFrame ch sr br ba bps len)) = .metaFrame ch sr br ba bps len := by
  have hch : le16 (encode (.metaFrame ch sr br ba bps len)) 4 = ch := half_of_its_bytes ch
  have hsr : le32 (encode (.metaFrame ch sr br ba bps len)) 6 = sr := word_of_its_bytes sr
  have hbr : le32 (encode (.metaFrame ch sr br ba bps len)) 10 = br := word_of_its_bytes br
  have hba : le16 (encode (.metaFrame ch sr br ba bps len)) 14 = ba := half_of_its_bytes ba
  have hbps : le16 (encode (.metaFrame ch sr br ba bps len)) 16 = bps := half_of_its_bytes bps
  have hlen : le32 (encode (.metaFrame ch sr br ba bps len)) 18 = len := word_of_its_bytes len
  rw [metaOf, hch, hsr, hbr, hba, hbps, hlen]

end Frame

/-! ### Both ports -/

variable {p : Port} {bs : List Byte} {i : Instr}

/-- Each port's decoder accepts only what the encoder writes for it. -/
theorem encode_of_decode (h : decode p bs = .ok i) : i.port = p ∧ i.WellFormed = true ∧ encode i = bs := by
  cases p with
  | cmd => exact encode_of_decode_cmd h
  | channel =>
    obtain ⟨hok, rfl⟩ := decodeFrame_eq_ok_iff.mp h
    exact encode_frameOf hok

/-- Each port's decoder reads back what the encoder writes for it. -/
theorem decode_encode (hwf : i.WellFormed = true) : decode i.port (encode i) = .ok i := by
  cases i with
  | metaFrame ch sr br ba bps len =>
    exact decodeFrame_eq_ok_iff.mpr
      ⟨frameOK_frameHeader_append (.inl ⟨rfl, rfl⟩), metaOf_encode ch sr br ba bps len⟩
  | chunkFrame body =>
    exact decodeFrame_eq_ok_iff.mpr
      ⟨frameOK_frameHeader_append (.inr (.inl ⟨rfl, of_decide_eq_true hwf⟩)), rfl⟩
  | endFrame => rfl
  | _ => exact (Machine.decode_cmd_bytes32 _).trans rfl

end Sys2Proof

namespace Sys2Proof.Machine

open Claims

variable {s : State}

/-- R114: a frame that does not decode, delivered to a receiving block, fails the reception and leaves the Channel. -/
theorem step_deliver_rejected {f : List Byte} {q : List RxEvent} {e : DecodeError} (he : s.nextEvent = .deliver)
    (hr : s.receiving = true) (hq : s.rxq = .frame f :: q) (hd : decode .channel f = .reject e) :
    step s = .next ({ s.begin with rxq := q }.failReceive .protoMalformed) := by
  have hrec : s.begin.receiving = true := hr
  exact step_of_done (by simp [fetch, he, deliverStep, hrec, hq, hd])

end Sys2Proof.Machine

namespace Sys2Proof

open Machine Claims

/-- Settles O1: command words by the opcode map, frames by their header and their fields (`decode_encode`). -/
theorem decodeOfEncodeIsTheInstruction : Obligations.DecodeOfEncodeIsTheInstruction :=
  fun _ hwf => decode_encode hwf

/-- Settles O2: the bytes that pass a port's checks are written again by its encoder (`encode_of_decode`). -/
theorem encodeOfDecodedBytesGivesThemBack : Obligations.EncodeOfDecodedBytesGivesThemBack :=
  fun _ _ _ h => encode_of_decode h

/-- Settles O3: the four bytes of a word are presented as that word, and R62 maps it. -/
theorem commandWordsAreTheOpcodeMap : Obligations.CommandWordsAreTheOpcodeMap := by
  intro w i
  rw [decode_cmd_bytes32, decodeCommand_eq_ok_iff]

/-- Settles O4: the decoder's checks are R72's (`decodeFrame_eq_ok_iff`), and a rejected frame ends the reception. -/
theorem framesAreWellFormedOrMalformed : Obligations.FramesAreWellFormedOrMalformed := by
  refine ⟨fun f => ?decodes, fun s f q rest hphase hev hq hbad => ?malformed⟩
  case decodes =>
    exact ⟨fun ⟨_, h⟩ => (decodeFrame_eq_ok_iff.mp h).1, fun hok => ⟨_, decodeFrame_of_frameOK hok⟩⟩
  case malformed =>
    obtain ⟨e, hd⟩ : ∃ e, decode .channel f = .reject e := by
      cases hd : decode .channel f with
      | ok i => exact absurd (frameOK_of_decodeFrame hd) hbad
      | reject e => exact ⟨e, rfl⟩
    rw [step_deliver_rejected (nextEvent_cons hev) (decide_eq_true hphase) hq hd, begin_cons hev]
    rfl

/-- Settles O5: each accepted string is the encoding of what is listed beside it (O1). -/
theorem specWordsDecodeAsListed : Obligations.SpecWordsDecodeAsListed :=
  ⟨decode_encode (i := .decode) rfl, decode_encode (i := .construct) rfl, decode_encode (i := .abort) rfl, rfl,
    decode_encode (i := .metaFrame 1 8000 16000 2 16 10) rfl, decode_encode (i := .chunkFrame [0x18, 0x19]) rfl,
    decode_encode (i := .endFrame) rfl⟩

end Sys2Proof

/-! ## Dispatch (40_dispatch.md R75 to R83)

A word at CMD by what the block makes of it: accepted, refused or dropped. Then ABORT in each phase, how a command ends
at its EXEC step, and the steps that are not enabled. -/

namespace Sys2Proof.Machine

open Claims

variable {s t : State} {rest : List Event} {w : Word}

/-! ### A command on the Host's turn (R75, R76) -/

theorem present_idle {f : State → State} (hp : s.phase = .idle) : present f s = f s.accept := if_pos hp

theorem present_busy {f : State → State} (hp : s.phase ≠ .idle) : present f s = s.flagOverrun := if_neg hp

/-- R76: a busy block drops a codec command. -/
theorem codecCommand_dropped {op : Byte} {f g : State → State} (hturn : s.turn = .host) (hp : s.phase ≠ .idle) :
    codecCommand op f g s = .next s.flagOverrun := by
  simp only [codecCommand, hturn, present_busy hp]

/-- R75: an idle block accepts a transfer command. -/
theorem transferCommand_accepted {f : State → State} {g : Answer → State → State} (hturn : s.turn = .host)
    (hp : s.phase = .idle) : transferCommand f g s = .next (f s.accept) := by
  simp only [transferCommand, hturn, present_idle hp]

/-- R76: a busy block drops a transfer command. -/
theorem transferCommand_dropped {f : State → State} {g : Answer → State → State} (hturn : s.turn = .host)
    (hp : s.phase ≠ .idle) : transferCommand f g s = .next s.flagOverrun := by
  simp only [transferCommand, hturn, present_busy hp]

/-! The acceptance of SEND by its two checks (R94). -/

theorem startSend_absent (hc : s.cpres = false) : startSend s = s.fail .noContainer := if_pos hc

theorem startSend_tooLong (hc : s.cpres = true) (hn : s.cfg.payBytes < s.c.dataSize.toNat) :
    startSend s = s.fail .capacity := by
  simp [startSend, hc, hn]

theorem startSend_fits (hc : s.cpres = true) (hn : s.c.dataSize.toNat ≤ s.cfg.payBytes) :
    startSend s = { s.clearCounters with txN := s.c.dataSize, phase := .txMeta } := by
  simp [startSend, hc, Nat.not_lt.mpr hn]

/-! ### ABORT (R83) -/

theorem transferring_iff : Transferring s ↔ s.phase ≠ .idle ∧ s.phase ≠ .exec := by
  unfold Transferring
  cases s.phase <;> simp

theorem execAbort_host (hturn : s.turn = .host) : execAbort s = .next (presentAbort s) := by
  simp only [execAbort, hturn]

theorem presentAbort_sending (hp : s.phase = .txMeta ∨ s.phase = .txChunks ∨ s.phase = .txEnd) :
    presentAbort s = (s.emit .txClose).fail .protoTransportFailure := by
  rcases hp with hp | hp | hp <;> simp only [presentAbort, hp]

theorem presentAbort_receiving (hp : s.phase = .rxMeta ∨ s.phase = .rxChunks) :
    presentAbort s = (s.emit .rxClose).fail .protoTransportFailure := by
  rcases hp with hp | hp <;> simp only [presentAbort, hp]

theorem presentAbort_idle (hp : s.phase = .idle) : presentAbort s = s.accept.complete := by
  simp only [presentAbort, hp]

theorem presentAbort_exec (hp : s.phase = .exec) : presentAbort s = s.flagOverrun := by
  simp only [presentAbort, hp]

/-- R76, R83: whichever transfer runs, ABORT closes its side of the port and takes the error entry. -/
theorem presentAbort_transferring (h : Transferring s) :
    ∃ e, presentAbort s = (s.emit e).fail .protoTransportFailure := by
  rcases h with hp | hp | hp
  · exact ⟨_, presentAbort_receiving (.inl hp)⟩
  · exact ⟨_, presentAbort_receiving (.inr hp)⟩
  · exact ⟨_, presentAbort_sending hp⟩

/-- R76: a busy block drops every command, but for ABORT of a transfer. -/
theorem exec_dropped {i : Instr} (hi : i.port = .cmd) (hturn : s.turn = .host) (hp : s.phase ≠ .idle)
    (habort : i = .abort → s.phase = .exec) : exec i s = .next s.flagOverrun := by
  cases i with
  | decode => exact codecCommand_dropped hturn hp
  | validate => exact codecCommand_dropped hturn hp
  | encode => exact codecCommand_dropped hturn hp
  | construct => exact codecCommand_dropped hturn hp
  | send => exact transferCommand_dropped hturn hp
  | receive => exact transferCommand_dropped (f := startReceive) (g := fun _ u => u) hturn hp
  | abort => exact (execAbort_host hturn).trans (congrArg _ (presentAbort_exec (habort rfl)))
  | metaFrame _ _ _ _ _ _ => cases hi
  | chunkFrame _ => cases hi
  | endFrame => cases hi

/-! ### The step of a word at CMD (R20, R75, R82) -/

/-- A legal word written to CMD, in the state it acts in as the statements spell it. -/
theorem step_legalWord {i : Instr} (h : HostNext s (.write .reg .w32 0x04 w) rest) (hd : decodeCommand w = .ok i) :
    step s = exec i (hostTurn s rest) := by
  rw [step_cmdWrite (nextEvent_cons h) hd, begin_of_hostNext h]

/-- A word written to CMD that decodes to no command. -/
theorem step_rejectedWord {e : DecodeError} (h : HostNext s (.write .reg .w32 0x04 w) rest)
    (hd : decodeCommand w = .reject e) : step s = .next (illegalCommand (hostTurn s rest)) := by
  have hlegal : (Access.write .reg .w32 0x04 w).Legal s.cfg := ⟨rfl, rfl, by decide⟩
  refine step_of_done ((fetch_hostWrite h hlegal).trans ?_)
  simp [hostWrite, regAt, presentWord, decode_cmd_bytes32, hd]

/-- R63: the decoder rejects an illegal word, as it is none of the seven of R62. -/
theorem decodeCommand_of_illegalWord (h : IllegalWord w) : ∃ e, decodeCommand w = .reject e := by
  cases hd : decodeCommand w with
  | reject e => exact ⟨e, rfl⟩
  | ok i =>
    rcases decodeCommand_ok hd with
      ⟨rfl, -⟩ | ⟨rfl, -⟩ | ⟨rfl, -⟩ | ⟨rfl, -⟩ | ⟨rfl, -⟩ | ⟨rfl, -⟩ | ⟨rfl, -⟩ <;>
      simp [IllegalWord] at h

/-- R82: an idle block does the common clearing before it refuses an illegal word. -/
theorem step_illegalWord_idle (hp : s.phase = .idle) (h : HostNext s (.write .reg .w32 0x04 w) rest)
    (hw : IllegalWord w) : step s = .next ((hostTurn s rest).accept.fail .badCommand) := by
  obtain ⟨e, hd⟩ := decodeCommand_of_illegalWord hw
  rw [step_rejectedWord h hd, illegalCommand, present_idle (s := hostTurn s rest) hp]

/-! ### The end of a command at its EXEC step (R78, R81, R120) -/

/-- A command has ended, and STATUS and ERR agree on how. -/
def State.Ended (s : State) : Prop := s.phase = .idle ∧ s.done = true ∧ (s.failed = true ↔ s.err ≠ .none)

theorem fail_ended (s : State) {code : ErrCode} (hc : code ≠ .none) : (s.fail code).Ended := ⟨rfl, rfl, by simp [hc]⟩

theorem complete_ended (s : State) : s.complete.Ended := ⟨rfl, rfl, by simp⟩

theorem performDecode_ended (s : State) : (performDecode s).Ended := by
  rcases performDecode_cases s with ⟨code, hc, h⟩ | ⟨-, -, -, h⟩ <;> rw [h]
  · exact fail_ended s hc
  · exact complete_ended _

theorem performValidate_ended (s : State) : (performValidate s).Ended := by
  rcases performValidate_cases s with ⟨-, h⟩ | ⟨-, h⟩ <;> rw [h]
  · exact fail_ended s (by decide)
  · exact complete_ended _

theorem performEncode_ended (s : State) : (performEncode s).Ended := by
  rcases performEncode_cases s with ⟨-, h⟩ | ⟨-, -, h⟩ | ⟨-, -, -, h⟩ <;> rw [h]
  · exact fail_ended s (by decide)
  · exact fail_ended s (by decide)
  · exact complete_ended _

theorem performConstruct_ended (s : State) : (performConstruct s).Ended := by
  rcases performConstruct_cases s with ⟨-, h⟩ | ⟨-, h⟩ <;> rw [h]
  · exact fail_ended s (by decide)
  · exact complete_ended _

/-- R78: the EXEC step performs the whole rule of the codec command whose opcode is pending. -/
theorem step_performs {op : Byte} {i : Instr} {f g : State → State} (he : s.nextEvent = .engine)
    (hp : s.phase = .exec) (ho : s.pendOp = op) (hi : pendingCommand op = some i)
    (hx : exec i s.begin = codecCommand op f g s.begin) : step s = .next (g s.begin) := by
  rw [step_exec he hp (ho ▸ hi), hx, codecCommand_exec (begin_turn_of he) hp ho]

/-! ### Steps that are not enabled (R79, R104) -/

theorem step_engine_disabled (he : s.nextEvent = .engine) (hp : s.phase ≠ .exec) : step s = .next s.begin :=
  step_of_done (by simp [fetch, he, engineStep, hp])

theorem step_answer_disabled {r : Answer} (he : s.nextEvent = .answer r) (hs : s.sending = false) :
    step s = .next s.begin :=
  step_of_done (by simp [fetch, he, hs])

/-- R104: a delivery to a block that is not receiving; the frame waits in the Channel. -/
theorem step_deliver_disabled (he : s.nextEvent = .deliver) (hr : s.receiving = false) : step s = .next s.begin := by
  have hrec : s.begin.receiving = false := hr
  exact step_of_done (by simp [fetch, he, deliverStep, hrec])

/-- R104: a delivery when nothing has arrived. -/
theorem step_deliver_empty (he : s.nextEvent = .deliver) (hq : s.rxq = []) : step s = .next s.begin :=
  step_of_done (by simp [fetch, he, deliverStep, hq])

/-! ### A transfer that waits for the Channel (R79, R80) -/

/-- What a running transfer has come to: where it stands, what it has received, and what the port has carried. -/
def SameTransfer (s t : State) : Prop :=
  t.phase = s.phase ∧ t.xferBytes = s.xferBytes ∧ t.xferFrags = s.xferFrags ∧ t.rxDeclLen = s.rxDeclLen ∧
    t.txN = s.txN ∧ t.c = s.c ∧ t.pay = s.pay ∧ t.rxq = s.rxq ∧ t.emitted = s.emitted

/-- R80: of the outcomes a busy block outside EXEC can have, those that are no reset, no ABORT and no step of the
Channel keep the transfer. -/
theorem Effect.sameTransfer (h : Effect s t) (hrunning : Transferring s) (hreset : s.nextEvent ≠ .reset)
    (habort : s.nextEvent ≠ cmdWrite 0x07)
    (hdeliver : s.phase = .rxMeta ∨ s.phase = .rxChunks → s.nextEvent ≠ .deliver)
    (hanswer : s.phase = .txMeta ∨ s.phase = .txChunks ∨ s.phase = .txEnd → ∀ r, s.nextEvent ≠ .answer r) :
    SameTransfer s t := by
  obtain ⟨hidle, hexec⟩ := transferring_iff.mp hrunning
  cases h
  case reset he ht => exact absurd he hreset
  case aborted e he hp ht => exact absurd he habort
  case linkFailed q he hp ht => exact absurd he (hdeliver (of_decide_eq_true hp))
  case frameRefused q code he hp hc ht => exact absurd he (hdeliver (of_decide_eq_true hp))
  case metaTooLong q st len he hp ht => exact absurd he (hdeliver (.inl hp))
  case metaTaken q st len he hp hn ht => exact absurd he (hdeliver (.inl hp))
  case chunkTaken f q body he hp hq hd ht => exact absurd he (hdeliver (.inr hp))
  case endTaken f q he hp hq hd ht => exact absurd he (hdeliver (.inr hp))
  case unsent i he hp ht => exact absurd he (hanswer (of_decide_eq_true hp) _)
  case metaSent i he hp ht => exact absurd he (hanswer (.inl hp) _)
  case chunkSent i he hp ht => exact absurd he (hanswer (.inr (.inl hp)) _)
  case endSent i he hp ht => exact absurd he (hanswer (.inr (.inr hp)) _)
  case bufLenWrite | fieldWrite | bufWrite | payWrite | replacingAccepted | readingAccepted | refused | sendStarted
      | receiveStarted | statusCleared => exact absurd ‹s.phase = .idle› hidle
  case execFailed | decoded | validated | encoded | constructed => exact absurd ‹s.phase = .exec› hexec
  case read ht | ignored ht | conflict ht | overrun ht | notEnabled ht =>
    subst ht
    exact ⟨rfl, rfl, rfl, rfl, rfl, rfl, rfl, rfl, rfl⟩

end Sys2Proof.Machine

namespace Sys2Proof

open Machine Claims

/-- Settles O7: each command and each frame answers on every turn and in every phase (`exists_exec_eq_next`). -/
theorem everyInstructionAnswersANextState : Obligations.EveryInstructionAnswersANextState := exists_exec_eq_next

/-- Settles O17: a phase in which SEND waits for an answer is none in which RECEIVE waits for a delivery. -/
theorem silentChannelLeavesTheTransferWaiting : Obligations.SilentChannelLeavesTheTransferWaiting := by
  intro s t hrunning hstep hreset habort hdeliver hanswer
  refine (effect_of_step hstep).sameTransfer hrunning hreset habort hdeliver fun hsending => hanswer ?_
  rcases hsending with hp | hp | hp <;> simp [hp]

/-- Settles O19: a good state has one of the four codec commands pending, and the rule of each of them ends it. -/
theorem execStepEndsTheCommand : Obligations.ExecStepEndsTheCommand := by
  intro s hinv hp he
  rcases hinv.exec_pending hp with ho | ho | ho | ho
  · exact ⟨_, step_performs he hp ho (i := .decode) rfl rfl, performDecode_ended s.begin⟩
  · exact ⟨_, step_performs he hp ho (i := .validate) rfl rfl, performValidate_ended s.begin⟩
  · exact ⟨_, step_performs he hp ho (i := .encode) rfl rfl, performEncode_ended s.begin⟩
  · exact ⟨_, step_performs he hp ho (i := .construct) rfl rfl, performConstruct_ended s.begin⟩

/-- Settles O21: an illegal word is refused (O23); a legal one runs as its command, which an idle block accepts. -/
theorem idleBlockAcceptsACommandWord : Obligations.IdleBlockAcceptsACommandWord := by
  intro s w rest hidle hnext
  have hturn : (hostTurn s rest).turn = .host := rfl
  have hp : (hostTurn s rest).phase = .idle := hidle
  refine ⟨step_illegalWord_idle hidle hnext, ?replacing, ?reading, ?send, ?receive, ?abort⟩
  case replacing =>
    rintro (rfl | rfl)
    · exact (step_legalWord hnext (i := .decode) rfl).trans (codecCommand_accepted (g := performDecode) hturn hp)
    · exact (step_legalWord hnext (i := .construct) rfl).trans (codecCommand_accepted (g := performConstruct) hturn hp)
  case reading =>
    rintro (rfl | rfl)
    · exact (step_legalWord hnext (i := .validate) rfl).trans (codecCommand_accepted (g := performValidate) hturn hp)
    · exact (step_legalWord hnext (i := .encode) rfl).trans (codecCommand_accepted (g := performEncode) hturn hp)
  case send =>
    rintro rfl
    have hstep : step s = .next (startSend (hostTurn s rest).accept) :=
      (step_legalWord hnext (i := .send) rfl).trans (transferCommand_accepted (g := answerSend) hturn hp)
    exact ⟨fun hc => hstep.trans (congrArg _ (startSend_absent hc)),
      fun hc hn => hstep.trans (congrArg _ (startSend_tooLong hc hn)),
      fun hc hn => hstep.trans (congrArg _ (startSend_fits hc hn))⟩
  case receive =>
    rintro rfl
    exact (step_legalWord hnext (i := .receive) rfl).trans
      (transferCommand_accepted (f := startReceive) (g := fun _ u => u) hturn hp)
  case abort =>
    rintro rfl
    exact ((step_legalWord hnext (i := .abort) rfl).trans (execAbort_host hturn)).trans
      (congrArg _ (presentAbort_idle hp))

/-- Settles O22: a word that is no command is dropped as every command is (`exec_dropped`); ABORT of a transfer takes
the error entry, which keeps CMD_OVERRUN. -/
theorem busyBlockDropsACommandWord : Obligations.BusyBlockDropsACommandWord := by
  intro s w rest hbusy hnext
  have hturn : (hostTurn s rest).turn = .host := rfl
  have hp : (hostTurn s rest).phase ≠ .idle := hbusy
  refine ⟨?dropped, ?aborted⟩
  case dropped =>
    intro hkeep
    cases hd : decodeCommand w with
    | reject e => exact (step_rejectedWord hnext hd).trans (congrArg _ (present_busy hp))
    | ok i =>
      have habort : i = .abort → s.phase = .exec := by
        rintro rfl
        have hw : w = 0x07 := by simpa using decodeCommand_eq_ok_iff.mp hd
        by_contra hexec
        exact hkeep ⟨hw, transferring_iff.mpr ⟨hbusy, hexec⟩⟩
      exact (step_legalWord hnext hd).trans (exec_dropped (encode_of_decodeCommand hd).1 hturn hp habort)
  case aborted =>
    rintro rfl hrunning
    obtain ⟨e, hend⟩ := presentAbort_transferring (s := hostTurn s rest) hrunning
    exact ⟨_, ((step_legalWord hnext (i := .abort) rfl).trans (execAbort_host hturn)).trans (congrArg _ hend), rfl, rfl⟩

/-- Settles O18, agent by agent. -/
theorem disabledStepsChangeNothing : Obligations.DisabledStepsChangeNothing := by
  refine ⟨fun s rest hp hev => ?engine, fun s hp hev => ?unlisted, fun s r rest hmeta hchunks hend hev => ?answer,
    fun s rest hmeta hchunks hev => ?notReceiving, fun s rest hq hev => ?nothingArrived⟩
  case engine => exact (step_engine_disabled (nextEvent_cons hev) hp).trans (congrArg _ (begin_cons hev))
  case unlisted => exact (step_engine_disabled (nextEvent_nil hev) hp).trans (congrArg _ (begin_nil hev))
  case answer =>
    have hs : s.sending = false := by simp [State.sending, hmeta, hchunks, hend]
    exact (step_answer_disabled (nextEvent_cons hev) hs).trans (congrArg _ (begin_cons hev))
  case notReceiving =>
    have hr : s.receiving = false := by simp [State.receiving, hmeta, hchunks]
    exact (step_deliver_disabled (nextEvent_cons hev) hr).trans (congrArg _ (begin_cons hev))
  case nothingArrived => exact (step_deliver_empty (nextEvent_cons hev) hq).trans (congrArg _ (begin_cons hev))

/-- Settles O23. -/
theorem illegalWordIsABadCommand : Obligations.IllegalWordIsABadCommand :=
  fun _ _ _ hidle hnext hw => step_illegalWord_idle hidle hnext hw

/-- Settles O24, phase by phase. -/
theorem abortEndsATransferOrClearsStatus : Obligations.AbortEndsATransferOrClearsStatus := by
  intro s hturn
  have hrun : exec .abort s = .next (presentAbort s) := execAbort_host hturn
  exact ⟨fun hp => hrun.trans (congrArg _ (presentAbort_sending hp)),
    fun hp => hrun.trans (congrArg _ (presentAbort_receiving hp)),
    fun hp => hrun.trans (congrArg _ (presentAbort_idle hp)),
    fun hp => hrun.trans (congrArg _ (presentAbort_exec hp))⟩

end Sys2Proof

/-! ## The codec (41_codec.md R84 to R93)

The rule of each command by its checks, what BUF reads once an image was written there, and the law that DECODE of an
image gives its container back (`performDecode_image`). A command word and the EXEC step after it are one run of two
steps (`run_codecCommand`). -/

namespace Sys2Proof.Machine

open Claims

variable {s t : State} {n : Nat}

/-! ### A codec command at its acceptance and at its EXEC step (R75, R78) -/

section Stages

variable {op : Byte} {f g : State → State}

theorem codecCommand_presentedIdle (h : PresentedIdle s) : codecCommand op f g s = .next ((f s.accept).pend op) :=
  have ⟨hturn, hp⟩ := h
  codecCommand_accepted hturn hp

theorem codecCommand_atExecStep (h : AtExecStep op s) : codecCommand op f g s = .next (g s) :=
  have ⟨hturn, hp, ho⟩ := h
  codecCommand_exec hturn hp ho

end Stages

theorem exec_decode_atExecStep (h : AtExecStep 0x01 s) : exec .decode s = .next (performDecode s) :=
  codecCommand_atExecStep (f := State.discardContainer) h

theorem exec_validate_atExecStep (h : AtExecStep 0x02 s) : exec .validate s = .next (performValidate s) :=
  codecCommand_atExecStep (f := id) h

theorem exec_encode_atExecStep (h : AtExecStep 0x03 s) : exec .encode s = .next (performEncode s) :=
  codecCommand_atExecStep (f := id) h

theorem exec_construct_atExecStep (h : AtExecStep 0x04 s) : exec .construct s = .next (performConstruct s) :=
  codecCommand_atExecStep (f := State.discardContainer) h

/-! ### Byte strings: their fields, and what BUF reads -/

/-- A word of a byte string is made of the four bytes from its offset on. -/
theorem le32_slice (l : List Byte) (o : Nat) : le32 l o = le32 ((l.drop o).take 4) 0 := by
  simp [le32, byteAt, List.getD]

/-- A half word of a byte string is made of the two bytes from its offset on. -/
theorem le16_slice (l : List Byte) (o : Nat) : le16 l o = le16 ((l.drop o).take 2) 0 := by
  simp [le16, byteAt, List.getD]

/-- A piece of a string read from BUF is itself read from BUF. -/
theorem take_drop_readBuf (s : State) (a : Nat) {o m : Nat} (h : o + m ≤ n) :
    ((s.readBuf a n).drop o).take m = s.readBuf (a + o) m := by
  refine List.ext_getElem (by simp; omega) fun i _ _ => ?_
  simp [State.readBuf, Nat.add_assoc]

/-- The end of a string read from BUF is itself read from BUF. -/
theorem drop_readBuf (s : State) (a k m : Nat) : (s.readBuf a (k + m)).drop k = s.readBuf (a + k) m := by
  rw [← take_drop_readBuf s a (Nat.le_refl _), List.take_of_length_le (by simp)]

/-- What BUF reads inside a byte string written at its start. -/
theorem readBuf_writeBuf {bs : List Byte} {o : Nat} (h : o + n ≤ bs.length) :
    (s.writeBuf 0 bs).readBuf o n = (bs.drop o).take n := by
  refine List.ext_getElem (by simp; omega) fun i h1 _ => ?_
  have hi : i < n := by simpa using h1
  have hlt : o + i < bs.length := by omega
  simp [State.readBuf, bufByte_writeBuf, hlt, byteAt]

/-! ### The image (R65 to R67) -/

/-- The parse of an image in BUF takes each field from its own offset (R66). -/
theorem parse_readBuf (h : 44 ≤ n) :
    Container.parse (s.readBuf 0 n) =
      { riffId := le32 (s.readBuf 0 4) 0, totalSize := le32 (s.readBuf 4 4) 0, waveId := le32 (s.readBuf 8 4) 0,
        fmtId := le32 (s.readBuf 12 4) 0, fmtSize := le32 (s.readBuf 16 4) 0, fmtTag := le16 (s.readBuf 20 2) 0,
        channels := le16 (s.readBuf 22 2) 0, sampleRate := le32 (s.readBuf 24 4) 0,
        byteRate := le32 (s.readBuf 28 4) 0, blockAlign := le16 (s.readBuf 32 2) 0, bits := le16 (s.readBuf 34 2) 0,
        dataId := le32 (s.readBuf 36 4) 0, dataSize := le32 (s.readBuf 40 4) 0 } := by
  have word {o : Nat} (ho : o + 4 ≤ 44) : le32 (s.readBuf 0 n) o = le32 (s.readBuf o 4) 0 := by
    rw [le32_slice, take_drop_readBuf s 0 (by omega), Nat.zero_add]
  have half {o : Nat} (ho : o + 2 ≤ 44) : le16 (s.readBuf 0 n) o = le16 (s.readBuf o 2) 0 := by
    rw [le16_slice, take_drop_readBuf s 0 (by omega), Nat.zero_add]
  simp only [Container.parse, word, half, Nat.reduceAdd, Nat.reduceLeDiff]

/-- R65: the fields of the header, each at its offset, whatever follows it. -/
theorem header_fields (c : Container) (rest : List Byte) :
    ((c.header ++ rest).drop 0).take 4 = bytes32 c.riffId ∧
    ((c.header ++ rest).drop 4).take 4 = bytes32 c.totalSize ∧
    ((c.header ++ rest).drop 8).take 4 = bytes32 c.waveId ∧
    ((c.header ++ rest).drop 12).take 4 = bytes32 c.fmtId ∧
    ((c.header ++ rest).drop 16).take 4 = bytes32 c.fmtSize ∧
    ((c.header ++ rest).drop 20).take 2 = bytes16 c.fmtTag ∧
    ((c.header ++ rest).drop 22).take 2 = bytes16 c.channels ∧
    ((c.header ++ rest).drop 24).take 4 = bytes32 c.sampleRate ∧
    ((c.header ++ rest).drop 28).take 4 = bytes32 c.byteRate ∧
    ((c.header ++ rest).drop 32).take 2 = bytes16 c.blockAlign ∧
    ((c.header ++ rest).drop 34).take 2 = bytes16 c.bits ∧
    ((c.header ++ rest).drop 36).take 4 = bytes32 c.dataId ∧
    ((c.header ++ rest).drop 40).take 4 = bytes32 c.dataSize := by
  simp only [Container.header, bytes32, bytes16, List.cons_append, List.nil_append, List.drop_succ_cons, List.drop_zero,
    List.take_succ_cons, List.take_zero, and_self]

/-- The parse undoes the header, whatever payload follows it (R66, R67). -/
theorem parse_header_append (c : Container) (payload : List Byte) : Container.parse (c.header ++ payload) = c := by
  obtain ⟨hriffId, htotalSize, hwaveId, hfmtId, hfmtSize, hfmtTag, hchannels, hsampleRate, hbyteRate, hblockAlign,
    hbits, hdataId, hdataSize⟩ := header_fields c payload
  have word (v : Word) : le32 (bytes32 v) 0 = v := word_of_its_bytes v
  have half (v : Half) : le16 (bytes16 v) 0 = v := half_of_its_bytes v
  simp only [Container.parse, le32_slice (c.header ++ payload), le16_slice (c.header ++ payload), hriffId, htotalSize,
    hwaveId, hfmtId, hfmtSize, hfmtTag, hchannels, hsampleRate, hbyteRate, hblockAlign, hbits, hdataId, hdataSize, word,
    half]

theorem header_length (c : Container) : c.header.length = hdrBytes := rfl

/-- After the header an image holds the payload (R67). -/
theorem byteAt_image {a : Nat} (h : a < s.c.dataSize.toNat) : byteAt s.image (hdrBytes + a) = s.payByte a := by
  rw [State.image, ← header_length s.c, byteAt_append_right, byteAt_readPay _ _ _ _ h, Nat.zero_add]

/-- The length of an image whose payload fits PAY is exact in BUF_LEN (R9). -/
theorem imageLength_toNat (cfg : Config) (h : n ≤ cfg.payBytes) :
    (BitVec.ofNat 32 (44 + n)).toNat = 44 + n := by
  have hle := cfg.pay_le
  rw [BitVec.toNat_ofNat]
  omega

/-! ### DECODE (R84) -/

theorem performDecode_tooLong (h : s.cfg.bufBytes < s.bufLen.toNat) : performDecode s = s.fail .capacity := if_pos h

theorem performDecode_noHeader (hbuf : s.bufLen.toNat ≤ s.cfg.bufBytes) (h : s.bufLen.toNat < hdrBytes) :
    performDecode s = s.fail .formatTruncated := by
  simp [performDecode, Nat.not_lt.mpr hbuf, h]

section Image

variable (hbuf : s.bufLen.toNat ≤ s.cfg.bufBytes) (hhdr : hdrBytes ≤ s.bufLen.toNat)
  (hn : (le32 (s.readBuf 40 4) 0).toNat = n)
include hbuf hhdr hn

theorem performDecode_truncated (h : s.bufLen.toNat - hdrBytes < n) : performDecode s = s.fail .formatTruncated := by
  simp only [performDecode, hn, if_neg (Nat.not_lt.mpr hbuf), if_neg (Nat.not_lt.mpr hhdr), if_pos h]

theorem performDecode_noRoom (hfit : n ≤ s.bufLen.toNat - hdrBytes) (h : s.cfg.payBytes < n) :
    performDecode s = s.fail .capacity := by
  simp only [performDecode, hn, if_neg (Nat.not_lt.mpr hbuf), if_neg (Nat.not_lt.mpr hhdr),
    if_neg (Nat.not_lt.mpr hfit), if_pos h]

/-- DECODE of an image that passes the four checks. -/
theorem performDecode_fits (hfit : n ≤ s.bufLen.toNat - hdrBytes) (hpay : n ≤ s.cfg.payBytes) :
    performDecode s =
      { s.writePay 0 (s.readBuf hdrBytes n) with
        c := .parse (s.readBuf 0 (hdrBytes + n)), cpres := true }.complete := by
  simp only [performDecode, hn, if_neg (Nat.not_lt.mpr hbuf), if_neg (Nat.not_lt.mpr hhdr),
    if_neg (Nat.not_lt.mpr hfit), if_neg (Nat.not_lt.mpr hpay), drop_readBuf, Nat.zero_add]

end Image

/-- DECODE of the image of a container gives the container and its payload back (R92). -/
theorem performDecode_image {c : Container} {payload : List Byte}
    (himg : s.readBuf 0 (hdrBytes + c.dataSize.toNat) = c.header ++ payload)
    (hlen : s.bufLen.toNat = hdrBytes + c.dataSize.toNat) (hpay : c.dataSize.toNat ≤ s.cfg.payBytes) :
    performDecode s = { s.writePay 0 payload with c := c, cpres := true }.complete := by
  have hparse : Container.parse (s.readBuf 0 (hdrBytes + c.dataSize.toNat)) = c := by
    rw [himg, parse_header_append]
  have hn : (le32 (s.readBuf 40 4) 0).toNat = c.dataSize.toNat := by
    rw [parse_readBuf (Nat.le_add_right 44 _)] at hparse
    exact congrArg (fun c => c.dataSize.toNat) hparse
  have hdrop : s.readBuf hdrBytes c.dataSize.toNat = payload := by
    have hread := drop_readBuf s 0 hdrBytes c.dataSize.toNat
    rwa [himg, ← header_length c, List.drop_left, header_length, Nat.zero_add, eq_comm] at hread
  have hbuf := s.cfg.buf_ge
  rw [performDecode_fits (by omega) (by omega) hn (by omega) hpay, hparse, hdrop]

/-! ### VALIDATE (R85) -/

theorem performValidate_absent (hc : s.cpres = false) : performValidate s = s.fail .noContainer := if_pos hc

theorem performValidate_present (hc : s.cpres = true) :
    performValidate s = { s with vcheck := s.c.checks, valid := s.c.isValid, vdone := true }.complete := by
  simp [performValidate, hc]

/-- A bit of a bit vector of any width is the Boolean that its number holds there. -/
theorem getLsbD_eq_of_toNat {w k : Nat} {v : BitVec w} {b : Bool} (h : v.toNat / 2 ^ k % 2 = b.toNat) :
    v.getLsbD k = b := by
  rw [← BitVec.testBit_toNat, Nat.testBit_eq_decide_div_mod_eq, h]
  cases b <;> rfl

/-- R29: each check has its own bit of VCHECK. -/
theorem checks_bits (c : Container) :
    c.checks.getLsbD 0 = c.riffOk ∧ c.checks.getLsbD 1 = c.waveOk ∧ c.checks.getLsbD 2 = c.fmtIdOk ∧
    c.checks.getLsbD 3 = c.dataIdOk ∧ c.checks.getLsbD 4 = c.byteRateOk ∧ c.checks.getLsbD 5 = c.blockAlignOk ∧
    c.checks.getLsbD 6 = c.totalSizeOk := by
  have h0 := c.riffOk.toNat_lt
  have h1 := c.waveOk.toNat_lt
  have h2 := c.fmtIdOk.toNat_lt
  have h3 := c.dataIdOk.toNat_lt
  have h4 := c.byteRateOk.toNat_lt
  have h5 := c.blockAlignOk.toNat_lt
  have h6 := c.totalSizeOk.toNat_lt
  refine ⟨?_, ?_, ?_, ?_, ?_, ?_, ?_⟩
  all_goals
    apply getLsbD_eq_of_toNat
    simp only [Container.checks, BitVec.toNat_ofNat]
    omega

/-- R85, R86: each bit of VCHECK is its check on exact naturals. -/
theorem checks_iff (c : Container) :
    (c.checks.getLsbD 0 = true ↔ c.riffId = magicRiff) ∧ (c.checks.getLsbD 1 = true ↔ c.waveId = magicWave) ∧
    (c.checks.getLsbD 2 = true ↔ c.fmtId = magicFmt) ∧ (c.checks.getLsbD 3 = true ↔ c.dataId = magicData) ∧
    (c.checks.getLsbD 4 = true ↔ c.byteRate.toNat = c.sampleRate.toNat * c.channels.toNat * c.bits.toNat / 8) ∧
    (c.checks.getLsbD 5 = true ↔ c.blockAlign.toNat = c.channels.toNat * c.bits.toNat / 8) ∧
    (c.checks.getLsbD 6 = true ↔ c.totalSize.toNat = 4 + (8 + c.fmtSize.toNat) + (8 + c.dataSize.toNat)) := by
  obtain ⟨h0, h1, h2, h3, h4, h5, h6⟩ := checks_bits c
  rw [h0, h1, h2, h3, h4, h5, h6]
  exact ⟨decide_eq_true_iff, decide_eq_true_iff, decide_eq_true_iff, decide_eq_true_iff, decide_eq_true_iff,
    decide_eq_true_iff, decide_eq_true_iff⟩

/-- R85: VALID says that VCHECK has all seven bits. -/
theorem isValid_iff_checks (c : Container) : c.isValid = true ↔ c.checks = 0x7F := by
  simp only [Container.isValid, Bool.and_eq_true]
  constructor
  · rintro ⟨⟨⟨⟨⟨⟨h0, h1⟩, h2⟩, h3⟩, h4⟩, h5⟩, h6⟩
    simp [Container.checks, h0, h1, h2, h3, h4, h5, h6]
  · intro h
    obtain ⟨h0, h1, h2, h3, h4, h5, h6⟩ := checks_bits c
    simp [← h0, ← h1, ← h2, ← h3, ← h4, ← h5, ← h6, h]

/-- R87: the format tag enters no check. -/
theorem checks_fmtTag (c : Container) (tag : Half) : { c with fmtTag := tag }.checks = c.checks := rfl

theorem isValid_fmtTag (c : Container) (tag : Half) : { c with fmtTag := tag }.isValid = c.isValid := rfl

/-! ### ENCODE (R88) -/

theorem performEncode_absent (hc : s.cpres = false) : performEncode s = s.fail .noContainer := if_pos hc

theorem performEncode_noRoom (hc : s.cpres = true) (hn : s.cfg.payBytes < s.c.dataSize.toNat) :
    performEncode s = s.fail .capacity := by
  simp [performEncode, hc, hn]

/-- What ENCODE leaves when it stores the image `img`. The image is an argument of its own, so that no comparison of two
such states computes it. -/
def State.encodedAs (s : State) (img : List Byte) : State :=
  { s.writeBuf 0 img with bufLen := BitVec.ofNat 32 (hdrBytes + s.c.dataSize.toNat) }.complete

/-- ENCODE of a container whose payload fits PAY: the image then fits BUF, by R9. -/
theorem performEncode_fits {img : List Byte} (hc : s.cpres = true) (hn : s.c.dataSize.toNat ≤ s.cfg.payBytes)
    (himg : s.image = img) : performEncode s = s.encodedAs img := by
  have hbuf := s.cfg.buf_ge
  have hroom : ¬ (s.cfg.payBytes < s.c.dataSize.toNat ∨ s.cfg.bufBytes < hdrBytes + s.c.dataSize.toNat) := by omega
  simp only [performEncode, hc, Bool.true_eq_false, if_false, if_neg hroom, himg, State.encodedAs]

/-- Once an image was written, BUF reads as the image. -/
theorem readBuf_image {img : List Byte} (himg : s.image = img) :
    (s.writeBuf 0 img).readBuf 0 (hdrBytes + s.c.dataSize.toNat) = s.c.header ++ s.readPay 0 s.c.dataSize.toNat := by
  rw [← image_length s, himg, readBuf_writeBuf (by omega), List.drop_zero, List.take_length, ← himg, State.image]

/-! ### CONSTRUCT (R90, R91) -/

theorem performConstruct_noRoom (h : s.cfg.payBytes < s.c.dataSize.toNat) : performConstruct s = s.fail .capacity :=
  if_pos h

/-- What CONSTRUCT leaves when it assigns its fields. -/
def State.constructed (s : State) : State :=
  { s with
    c := constructFields s.c.channels s.c.sampleRate s.c.byteRate s.c.blockAlign s.c.bits s.c.dataSize,
    cpres := true }.complete

theorem performConstruct_fits (h : s.c.dataSize.toNat ≤ s.cfg.payBytes) : performConstruct s = s.constructed :=
  if_neg (Nat.not_lt.mpr h)

/-- The total size CONSTRUCT writes does not wrap where the payload fits PAY (R9, R91). -/
theorem constructFields_totalSize (cfg : Config) {size : Word} (h : size.toNat ≤ cfg.payBytes) (ch : Half)
    (sr br : Word) (ba bps : Half) : (constructFields ch sr br ba bps size).totalSize.toNat = 36 + size.toNat := by
  have hle := cfg.pay_le
  simp only [constructFields, BitVec.toNat_ofNat]
  omega

/-! ### A codec command over its two steps (R75, R78) -/

/-- A run begins with the step. -/
theorem run_succ_of_step (h : step s = .next t) : core.run (n + 1) s = core.run n t := by
  have hcore : core.step s = .next t := h
  simp only [Host.Core.run, hcore]

/-- The state in which a codec command that the idle block `s` accepts is performed: `f` is what its acceptance does to
the slot, and the EXEC step follows at once. -/
def State.pending (s : State) (f : State → State) (op : Byte) : State := ((f s.begin.accept).pend op).begin

/-- R75, R78: a codec command written to the CMD of an idle block and the EXEC step after it come to its rule. -/
theorem run_codecCommand {op : Byte} {w : Word} {i : Instr} {f g : State → State} {rest : List Event}
    (hp : s.phase = .idle) (hev : s.events = cmdWrite w :: .engine :: rest) (hd : decodeCommand w = .ok i)
    (hi : pendingCommand op = some i) (hx : ∀ u, exec i u = codecCommand op f g u)
    (hf : ∀ u, (f u).events = u.events) : core.run (n + 2) s = core.run n (g (s.pending f op)) := by
  have he : s.nextEvent = cmdWrite w := nextEvent_cons hev
  have haccept : step s = .next ((f s.begin.accept).pend op) := by
    rw [step_cmdWrite he hd, hx, codecCommand_accepted (begin_turn_of he) hp]
  have hnext : ((f s.begin.accept).pend op).nextEvent = .engine := by
    refine nextEvent_cons (rest := rest) ?_
    simp [hf, hev]
  rw [run_succ_of_step haccept, run_succ_of_step (step_performs hnext rfl rfl hi (hx _))]
  rfl

section Run

variable {rest : List Event} (hp : s.phase = .idle)
include hp

theorem run_decode (hev : s.events = cmdWrite 0x01 :: .engine :: rest) :
    core.run (n + 2) s = core.run n (performDecode (s.pending State.discardContainer 0x01)) :=
  run_codecCommand hp hev (i := .decode) rfl rfl (fun _ => rfl) (fun _ => rfl)

theorem run_validate (hev : s.events = cmdWrite 0x02 :: .engine :: rest) :
    core.run (n + 2) s = core.run n (performValidate (s.pending id 0x02)) :=
  run_codecCommand hp hev (i := .validate) rfl rfl (fun _ => rfl) (fun _ => rfl)

theorem run_encode (hev : s.events = cmdWrite 0x03 :: .engine :: rest) :
    core.run (n + 2) s = core.run n (performEncode (s.pending id 0x03)) :=
  run_codecCommand hp hev (i := .encode) rfl rfl (fun _ => rfl) (fun _ => rfl)

theorem run_construct (hev : s.events = cmdWrite 0x04 :: .engine :: rest) :
    core.run (n + 2) s = core.run n (performConstruct (s.pending State.discardContainer 0x04)) :=
  run_codecCommand hp hev (i := .construct) rfl rfl (fun _ => rfl) (fun _ => rfl)

end Run

end Sys2Proof.Machine

namespace Sys2Proof

open Machine Claims

/-- Settles O25: the four checks in their order, then each field and each payload byte from its place in the image. -/
theorem decodeParsesTheImage : Obligations.DecodeParsesTheImage := by
  refine ⟨fun s h => codecCommand_presentedIdle (g := performDecode) h, fun s hat => ?_⟩
  have hrun := exec_decode_atExecStep hat
  refine ⟨fun h => hrun.trans (congrArg _ (performDecode_tooLong h)),
    fun hbuf h => hrun.trans (congrArg _ (performDecode_noHeader hbuf h)),
    fun hbuf hhdr h => hrun.trans (congrArg _ (performDecode_truncated hbuf hhdr rfl h)),
    fun hbuf hhdr hfit h => hrun.trans (congrArg _ (performDecode_noRoom hbuf hhdr rfl hfit h)),
    fun hbuf hhdr hfit hpay => ⟨_, hrun.trans (congrArg _ (performDecode_fits hbuf hhdr rfl hfit hpay)), rfl,
      parse_readBuf (Nat.le_add_right 44 _), fun a ha => ?payload, fun a ha => ?above, fun _ => rfl⟩⟩
  case payload =>
    refine (payByte_writePay s 0 _ a).trans ?_
    rw [if_pos (by simpa using ha), Nat.sub_zero, byteAt_readBuf _ _ _ _ ha]
  case above =>
    refine (payByte_writePay s 0 _ a).trans ?_
    rw [if_neg (by simpa using ha)]

/-- Settles O26: the run comes to the rule of DECODE (`run_decode`), whose second check fails. -/
theorem shortImagesAreTruncated : Obligations.ShortImagesAreTruncated := by
  intro s rest hp hev hshort hbuf
  have hdecode : performDecode (s.pending State.discardContainer 0x01) =
      (s.pending State.discardContainer 0x01).fail .formatTruncated := performDecode_noHeader hbuf hshort
  refine ⟨_, run_decode (n := 0) hp hev, ?_⟩
  rw [hdecode]
  exact ⟨rfl, rfl, rfl, rfl, rfl, rfl, rfl, rfl⟩

/-- Settles O27: VCHECK holds each check at its bit (`checks_iff`), and VALID is all of them. -/
theorem validateEvaluatesTheSevenChecks : Obligations.ValidateEvaluatesTheSevenChecks := by
  refine ⟨fun s h => codecCommand_presentedIdle (f := id) (g := performValidate) h, fun s hat => ?_⟩
  have hrun := exec_validate_atExecStep hat
  refine ⟨fun hc => hrun.trans (congrArg _ (performValidate_absent hc)),
    fun hc => ⟨_, hrun.trans (congrArg _ (performValidate_present hc)), rfl, ?_⟩⟩
  obtain ⟨h0, h1, h2, h3, h4, h5, h6⟩ := checks_iff s.c
  exact ⟨h0, h1, h2, h3, h4, h5, h6, isValid_iff_checks s.c⟩

/-- Settles O28: the checks read the C_* registers alone, and no check reads the tag. -/
theorem validateIgnoresTagPayloadAndCounts : Obligations.ValidateIgnoresTagPayloadAndCounts := by
  have hrun {s : State} (hat : AtExecStep 0x02 s) (hc : s.cpres = true) : exec .validate s =
      .next { s with vcheck := s.c.checks, valid := s.c.isValid, vdone := true }.complete := by
    rw [exec_validate_atExecStep hat, performValidate_present hc]
  refine ⟨fun s tag pay decl cnt hat hc => ?ignored, fun s hat hc hfmt htotal => ?size18⟩
  case ignored => exact ⟨_, _, hrun hat hc, hrun hat hc, checks_fmtTag s.c tag, isValid_fmtTag s.c tag⟩
  case size18 =>
    obtain ⟨-, -, -, -, -, -, h6⟩ := checks_iff s.c
    have hsize : s.c.fmtSize.toNat = 18 := by rw [hfmt]; rfl
    exact ⟨_, hrun hat hc, h6.mpr (by omega)⟩

/-- Settles O29: BUF reads as the image it was written (`readBuf_writeBuf`), field by field, and as before above it. -/
theorem encodeSerializesTheContainer : Obligations.EncodeSerializesTheContainer := by
  refine ⟨fun s h => codecCommand_presentedIdle (f := id) (g := performEncode) h, fun s hat => ?_⟩
  have hrun := exec_encode_atExecStep hat
  have hlen : s.image.length = 44 + s.c.dataSize.toNat := image_length s
  have hfields := header_fields s.c (s.readPay 0 s.c.dataSize.toNat)
  have hpayload {a : Nat} (ha : a < s.c.dataSize.toNat) : byteAt s.image (44 + a) = s.payByte a := byteAt_image ha
  rw [← State.image] at hfields
  generalize himg : s.image = img at hlen hfields hpayload
  have field {o n : Nat} {bs : List Byte} (ho : o + n ≤ 44) (hbs : (img.drop o).take n = bs) :
      (s.writeBuf 0 img).readBuf o n = bs := (readBuf_writeBuf (by omega)).trans hbs
  obtain ⟨hriffId, htotalSize, hwaveId, hfmtId, hfmtSize, hfmtTag, hchannels, hsampleRate, hbyteRate, hblockAlign,
    hbits, hdataId, hdataSize⟩ := hfields
  refine ⟨fun hc => hrun.trans (congrArg _ (performEncode_absent hc)),
    fun hc hn => hrun.trans (congrArg _ (performEncode_noRoom hc hn)),
    fun hc hn => ⟨_, hrun.trans (congrArg _ (performEncode_fits hc hn himg)), rfl, imageLength_toNat s.cfg hn,
      field (by decide) hriffId, field (by decide) htotalSize, field (by decide) hwaveId, field (by decide) hfmtId,
      field (by decide) hfmtSize, field (by decide) hfmtTag, field (by decide) hchannels,
      field (by decide) hsampleRate, field (by decide) hbyteRate, field (by decide) hblockAlign,
      field (by decide) hbits, field (by decide) hdataId, field (by decide) hdataSize,
      fun a ha => ?payload, fun a ha => ?above, fun _ => rfl⟩⟩
  case payload =>
    refine (bufByte_writeBuf s 0 img (44 + a)).trans ?_
    rw [if_pos (by omega), Nat.sub_zero, hpayload ha]
  case above =>
    refine (bufByte_writeBuf s 0 img a).trans ?_
    rw [if_neg (by omega)]

/-- Settles O30: every field but the total size is assigned as the statement spells it; that one does not wrap. -/
theorem constructAssemblesTheContainer : Obligations.ConstructAssemblesTheContainer := by
  refine ⟨fun s h => codecCommand_presentedIdle (g := performConstruct) h, fun s hat => ?_⟩
  have hrun := exec_construct_atExecStep hat
  exact ⟨fun h => hrun.trans (congrArg _ (performConstruct_noRoom h)),
    fun h => ⟨_, hrun.trans (congrArg _ (performConstruct_fits h)), rfl, rfl,
      constructFields_totalSize s.cfg h _ _ _ _ _, fun _ => rfl, fun _ => rfl⟩⟩

/-- Settles O31: VALIDATE finds the fields that CONSTRUCT assigned. -/
theorem constructedContainersPassFiveChecks : Obligations.ConstructedContainersPassFiveChecks := by
  intro s rest hp hn hev
  let t := (s.pending State.discardContainer 0x04).constructed
  have hevents : t.events = cmdWrite 0x02 :: .engine :: rest := congrArg (fun es => es.tail.tail) hev
  have hconstruct : core.run 4 s = core.run 2 t :=
    (run_construct hp hev).trans (congrArg _ (performConstruct_fits hn))
  have hvalidate : core.run 2 t = .next (performValidate (t.pending id 0x02)) := run_validate (n := 0) rfl hevents
  have htotal : t.c.totalSize.toNat = 4 + (8 + 16) + (8 + s.c.dataSize.toNat) := by
    rw [show t.c.totalSize.toNat = 36 + s.c.dataSize.toNat from constructFields_totalSize s.cfg hn _ _ _ _ _]
    omega
  obtain ⟨h0, h1, h2, h3, h4, h5, h6⟩ := checks_iff t.c
  exact ⟨_, (hconstruct.trans hvalidate).trans (congrArg _ (performValidate_present rfl)), rfl, rfl, h0.mpr rfl,
    h1.mpr rfl, h2.mpr rfl, h3.mpr rfl, h6.mpr htotal, h4, h5⟩

/-- Settles O32: BUF reads as the image that ENCODE wrote (`readBuf_image`), and DECODE gives its container back
(`performDecode_image`). -/
theorem encodeThenDecodeIsARoundTrip : Obligations.EncodeThenDecodeIsARoundTrip := by
  intro s rest hp hc hn hev
  let u := s.pending id 0x03
  obtain ⟨img, himg⟩ : ∃ img, u.image = img := ⟨_, rfl⟩
  let m := u.encodedAs img
  let v := m.pending State.discardContainer 0x01
  have hevents : m.events = cmdWrite 0x01 :: .engine :: rest := congrArg (fun es => es.tail.tail) hev
  have hencode (n : Nat) : core.run (n + 2) s = core.run n m :=
    (run_encode hp hev).trans (congrArg _ (performEncode_fits hc hn himg))
  have hdecode : core.run 2 m = .next (performDecode v) := run_decode (n := 0) rfl hevents
  have hback : performDecode v =
      { v.writePay 0 (s.readPay 0 s.c.dataSize.toNat) with c := s.c, cpres := true }.complete :=
    performDecode_image (readBuf_image himg) (imageLength_toNat s.cfg hn) hn
  refine ⟨⟨m, hencode 0, rfl, rfl, rfl, rfl⟩, _, ((hencode 2).trans hdecode).trans (congrArg _ hback), rfl, rfl, rfl,
    rfl, rfl, fun a ha => ?_, rfl, rfl, rfl, rfl⟩
  refine (payByte_writePay v 0 _ a).trans ?_
  rw [if_pos (by simpa using ha), Nat.sub_zero, byteAt_readPay _ _ _ _ ha, Nat.zero_add]

end Sys2Proof

/-! ## SEND (42_encoder.md R94 to R101)

What an answer makes of each transmit phase, then the run of a SEND answered OK throughout: `State.afterChunks` is the
state it has reached when META and a number of CHUNKs are answered, and the run goes from one to the next. -/

namespace Sys2Proof.Machine

open Claims

variable {s : State} {rest : List Event} {n j : Nat}

/-! ### The frame offered and its answer (R95 to R99) -/

theorem encode_metaFrame (c : Container) (len : Word) :
    encode (.metaFrame c.channels c.sampleRate c.byteRate c.blockAlign c.bits len) = metaBytes c len := rfl

theorem encode_chunkFrame (body : List Byte) : encode (.chunkFrame body) = chunkBytes body := rfl

theorem encode_endFrame : encode .endFrame = endBytes := rfl

/-- R41: in each transmit phase a frame is offered, and its bytes are those of R95, R97 and R98. -/
theorem exists_offered (hs : s.sending = true) : ∃ i, s.offered = some i ∧ encode i = offeredBytes s := by
  have hphase : s.phase = .txMeta ∨ s.phase = .txChunks ∨ s.phase = .txEnd := of_decide_eq_true hs
  rcases hphase with hp | hp | hp <;> simp only [State.offered, offeredBytes, hp, Option.some.injEq, exists_eq_left']
  · exact encode_metaFrame s.c s.txN
  · exact encode_chunkFrame _
  · exact encode_endFrame

/-- R99: whichever frame is refused, it is recorded and SEND takes the error entry. -/
theorem answerSend_fail (hs : s.sending = true) :
    answerSend .fail s = (s.emit (.frame (offeredBytes s) .fail)).fail .protoTransportFailure := by
  obtain ⟨i, hi, hbytes⟩ := exists_offered hs
  simp only [answerSend, hi, hbytes]

/-- R95, R96: META is accepted. -/
theorem answerSend_txMeta (hp : s.phase = .txMeta) :
    answerSend .ok s = { s.emit (.frame (metaBytes s.c s.txN) .ok) with
      phase := if s.txN = 0 then .txEnd else .txChunks } := by
  simp only [answerSend, State.offered, hp, encode_metaFrame]
  exact advanceSend_txMeta hp

/-- R97: a CHUNK is accepted. -/
theorem answerSend_txChunks (hp : s.phase = .txChunks) :
    answerSend .ok s = { s.emit (.frame (chunkBytes (s.readPay s.xferBytes.toNat s.fragLen)) .ok) with
      xferBytes := BitVec.ofNat 32 (s.xferBytes.toNat + s.fragLen), xferFrags := satAdd s.xferFrags 1,
      phase := if s.xferBytes.toNat + s.fragLen = s.txN.toNat then .txEnd else .txChunks } := by
  simp only [answerSend, State.offered, hp, encode_chunkFrame]
  exact advanceSend_txChunks hp

/-- R98: END is accepted. -/
theorem answerSend_txEnd (hp : s.phase = .txEnd) : answerSend .ok s = (s.emit (.frame endBytes .ok)).complete := by
  simp only [answerSend, State.offered, hp, encode_endFrame]
  exact advanceSend_txEnd hp

/-- SEND on the Channel's turn takes the answer. -/
theorem exec_send_answer {r : Answer} (hturn : s.turn = .answer r) : exec .send s = .next (answerSend r s) := by
  simp only [exec, execSend, transferCommand, hturn]

/-- R97: a fragment is neither empty nor longer than FRAG_MAX, and stays within the payload. -/
theorem fragLen_bounds (hleft : s.xferBytes.toNat < s.txN.toNat) :
    1 ≤ s.fragLen ∧ s.fragLen ≤ s.cfg.fragMax ∧ s.xferBytes.toNat + s.fragLen ≤ s.txN.toNat := by
  have hpos := s.cfg.frag_pos
  unfold State.fragLen
  omega

/-! ### The fragments of a payload (R97, R100) -/

theorem lt_chunkCount_iff {f : Nat} (hf : 1 ≤ f) : j < chunkCount n f ↔ j * f < n := by
  rw [chunkCount, Nat.lt_iff_add_one_le, Nat.le_div_iff_mul_le hf, Nat.succ_mul]
  omega

theorem lt_fragCount_iff : j < fragCount s ↔ j * s.cfg.fragMax < s.c.dataSize.toNat :=
  lt_chunkCount_iff s.cfg.frag_pos

/-- How much of the payload the first `j` fragments hold. -/
def State.chunkOffset (s : State) (j : Nat) : Nat := min (j * s.cfg.fragMax) s.c.dataSize.toNat

theorem chunkOffset_zero (s : State) : s.chunkOffset 0 = 0 := by simp [State.chunkOffset]

theorem chunkOffset_le (s : State) (j : Nat) : s.chunkOffset j ≤ s.c.dataSize.toNat := Nat.min_le_right _ _

theorem chunkOffset_of_lt (hj : j < fragCount s) : s.chunkOffset j = j * s.cfg.fragMax :=
  Nat.min_eq_left (Nat.le_of_lt (lt_fragCount_iff.mp hj))

/-- The fragments hold the whole payload. -/
theorem chunkOffset_eq_dataSize_iff : s.chunkOffset j = s.c.dataSize.toNat ↔ fragCount s ≤ j := by
  rw [← Nat.not_lt, lt_fragCount_iff, State.chunkOffset]
  omega

theorem fragment_length (s : State) (j : Nat) :
    (fragment s j).length = min s.cfg.fragMax (s.c.dataSize.toNat - j * s.cfg.fragMax) := readPay_length _ _ _

theorem chunkOffset_succ (hj : j < fragCount s) : s.chunkOffset (j + 1) = s.chunkOffset j + (fragment s j).length := by
  have hleft := lt_fragCount_iff.mp hj
  rw [chunkOffset_of_lt hj, State.chunkOffset, fragment_length, Nat.succ_mul]
  omega

theorem fragCount_le_dataSize (s : State) : fragCount s ≤ s.c.dataSize.toNat := by
  by_contra hlt
  have hmul := lt_fragCount_iff.mp (Nat.lt_of_not_le hlt)
  exact absurd (Nat.le_mul_of_pos_right _ s.cfg.frag_pos) (Nat.not_le.mpr hmul)

/-- Reading PAY on from where a read ended. -/
theorem readPay_add (s : State) (a m n : Nat) : s.readPay a (m + n) = s.readPay a m ++ s.readPay (a + m) n := by
  simp [State.readPay, List.range_add, Nat.add_assoc]

/-- The next fragment lies behind the ones before it. -/
theorem readPay_chunkOffset (hj : j < fragCount s) :
    s.readPay (s.chunkOffset j) (fragment s j).length = fragment s j := by
  rw [chunkOffset_of_lt hj, fragment_length, fragment]

/-- R101: the fragments joined are the payload up to the offset they reach. -/
theorem flatten_fragments (hj : j ≤ fragCount s) :
    ((List.range j).map (fragment s)).flatten = s.readPay 0 (s.chunkOffset j) := by
  induction j with
  | zero => rw [chunkOffset_zero]; rfl
  | succ j ih =>
    rw [List.range_succ, List.map_append, List.flatten_append, ih (Nat.le_of_lt hj), chunkOffset_succ hj, readPay_add,
      Nat.zero_add, readPay_chunkOffset hj]
    simp

theorem begin_fragLen (s : State) : s.begin.fragLen = s.fragLen := rfl

theorem begin_readPay (s : State) (a n : Nat) : s.begin.readPay a n = s.readPay a n := rfl

/-! ### A run that goes through stages -/

/-- A run takes a machine through stages of which each leads to the next. -/
theorem run_stages {stage : Nat → State} {k : Nat} (h : ∀ j, j < k → step (stage j) = .next (stage (j + 1))) :
    core.run (k + n) (stage 0) = core.run n (stage k) := by
  induction k generalizing n with
  | zero => rw [Nat.zero_add]
  | succ k ih =>
    calc core.run (k + 1 + n) (stage 0)
      _ = core.run (k + (n + 1)) (stage 0) := by rw [Nat.add_assoc, Nat.add_comm 1]
      _ = core.run (n + 1) (stage k) := ih fun j hj => h j (Nat.lt_succ_of_lt hj)
      _ = core.run n (stage (k + 1)) := run_succ_of_step (h k (Nat.lt_succ_self k))

/-! ### A SEND answered OK throughout (R100, R101) -/

/-- R96 to R99: an answer to the frame that SEND offers. -/
theorem step_answered {r : Answer} (hev : s.events = .answer r :: rest) (hs : s.sending = true) :
    step s = .next (answerSend r s.begin) := by
  have he := nextEvent_cons hev
  rw [step_answer he hs, exec_send_answer (begin_turn_of he)]

/-- A counter below its limit counts one more. -/
theorem satAdd_one (h : j + 1 < 2 ^ 32) : satAdd (BitVec.ofNat 32 j) 1 = BitVec.ofNat 32 (j + 1) := by
  apply BitVec.eq_of_toNat_eq
  simp only [satAdd_toNat, BitVec.toNat_ofNat]
  omega

/-- There are fewer fragments than XFER_FRAGS can count. -/
theorem fragCount_lt (s : State) : fragCount s < 2 ^ 32 :=
  Nat.lt_of_le_of_lt (fragCount_le_dataSize s) s.c.dataSize.isLt

theorem chunkOffset_lt (s : State) (j : Nat) : s.chunkOffset j < 2 ^ 32 :=
  Nat.lt_of_le_of_lt (chunkOffset_le s j) s.c.dataSize.isLt

/-- What the acceptance of SEND leaves where its two checks pass (R94). -/
def State.sendStarted (s : State) : State := { s.accept.clearCounters with txN := s.c.dataSize, phase := .txMeta }

/-- What a SEND that the idle block `s` started has come to when META and the first `j` CHUNKs are answered OK. -/
def State.afterChunks (s : State) (rest : List Event) (j : Nat) : State :=
  { cleared s with
    phase := if s.chunkOffset j = s.c.dataSize.toNat then .txEnd else .txChunks
    emitted := s.emitted ++ ([metaBytes s.c s.c.dataSize] ++
      (List.range j).map fun k => chunkBytes (fragment s k)).map fun f => .frame f .ok
    events := List.replicate (fragCount s - j + 1) (.answer .ok) ++ rest
    turn := .answer .ok
    txN := s.c.dataSize
    xferBytes := BitVec.ofNat 32 (s.chunkOffset j)
    xferFrags := BitVec.ofNat 32 j }

/-- What a SEND that the idle block `s` started has come to when END is answered OK too. -/
def State.afterEnd (s : State) (rest : List Event) : State :=
  { succeeded (cleared s) with
    emitted := s.emitted ++ (transmitSequence s).map fun f => .frame f .ok
    events := rest
    turn := .answer .ok
    txN := s.c.dataSize
    xferBytes := s.c.dataSize
    xferFrags := BitVec.ofNat 32 (fragCount s) }

theorem afterChunks_xferBytes_toNat (s : State) (rest : List Event) (j : Nat) :
    (s.afterChunks rest j).xferBytes.toNat = s.chunkOffset j := Nat.mod_eq_of_lt (chunkOffset_lt s j)

theorem ofNat_chunkOffset_fragCount (s : State) : BitVec.ofNat 32 (s.chunkOffset (fragCount s)) = s.c.dataSize := by
  rw [chunkOffset_eq_dataSize_iff.mpr (Nat.le_refl _), BitVec.ofNat_toNat, BitVec.setWidth_eq]

theorem afterChunks_fragLen (rest : List Event) (hj : j < fragCount s) :
    (s.afterChunks rest j).fragLen = (fragment s j).length := by
  rw [State.fragLen, afterChunks_xferBytes_toNat, chunkOffset_of_lt hj, fragment_length]
  rfl

theorem afterChunks_readPay (s : State) (rest : List Event) (j a n : Nat) :
    (s.afterChunks rest j).readPay a n = s.readPay a n := rfl

theorem afterChunks_events (rest : List Event) (hj : j < fragCount s) :
    (s.afterChunks rest j).events = .answer .ok :: (s.afterChunks rest (j + 1)).events := by
  have hleft : fragCount s - j = fragCount s - (j + 1) + 1 := by omega
  simp only [State.afterChunks, hleft, List.replicate_succ, List.cons_append]

/-- R94: SEND is accepted. -/
theorem step_send_fits (hp : s.phase = .idle) (hc : s.cpres = true) (hn : s.c.dataSize.toNat ≤ s.cfg.payBytes)
    (hev : s.events = cmdWrite 0x05 :: rest) : step s = .next s.begin.sendStarted :=
  (step_send (nextEvent_cons hev) hp).trans (congrArg _ (startSend_fits (s := s.begin.accept) hc hn))

/-- R95: META is answered. -/
theorem step_sendStarted
    (hev : s.events = cmdWrite 0x05 :: (List.replicate (fragCount s + 2) (.answer .ok) ++ rest)) :
    step s.begin.sendStarted = .next (s.afterChunks rest 0) := by
  have hnext : s.begin.sendStarted.events = .answer .ok :: (s.afterChunks rest 0).events := congrArg List.tail hev
  have hnone : s.c.dataSize = 0#32 ↔ 0 = s.c.dataSize.toNat := by
    rw [← BitVec.toNat_inj, eq_comm]
    rfl
  rw [step_answered hnext rfl, answerSend_txMeta rfl, begin_cons hnext]
  simp [State.sendStarted, State.afterChunks, State.emit, State.accept, State.clearCounters, cleared, Event.turn,
    chunkOffset_zero, hnone]

/-- R97: the next CHUNK is answered. -/
theorem step_afterChunks (rest : List Event) (hj : j < fragCount s) :
    step (s.afterChunks rest j) = .next (s.afterChunks rest (j + 1)) := by
  have hp : (s.afterChunks rest j).phase = .txChunks :=
    if_neg fun h => Nat.not_le.mpr hj (chunkOffset_eq_dataSize_iff.mp h)
  have hev := afterChunks_events rest hj
  rw [step_answered hev (decide_eq_true (.inr (.inl hp))), answerSend_txChunks (s := (s.afterChunks rest j).begin) hp,
    State.begin_xferBytes, begin_fragLen, begin_readPay, afterChunks_xferBytes_toNat, afterChunks_fragLen rest hj,
    afterChunks_readPay, readPay_chunkOffset hj, ← chunkOffset_succ hj, begin_cons hev]
  have hfrags := satAdd_one (Nat.lt_of_le_of_lt hj (fragCount_lt s))
  simp [State.afterChunks, State.emit, Event.turn, hfrags, List.range_succ]

/-- R98: END is answered. -/
theorem step_afterChunks_end (s : State) (rest : List Event) :
    step (s.afterChunks rest (fragCount s)) = .next (s.afterEnd rest) := by
  have hp : (s.afterChunks rest (fragCount s)).phase = .txEnd :=
    if_pos (chunkOffset_eq_dataSize_iff.mpr (Nat.le_refl _))
  have hev : (s.afterChunks rest (fragCount s)).events = .answer .ok :: rest := by simp [State.afterChunks]
  rw [step_answered hev (decide_eq_true (.inr (.inr hp))),
    answerSend_txEnd (s := (s.afterChunks rest (fragCount s)).begin) hp, begin_cons hev]
  simp [State.afterChunks, State.afterEnd, State.emit, State.complete, succeeded, transmitSequence, Event.turn,
    ofNat_chunkOffset_fragCount]

/-- R101: the run of a SEND answered OK throughout. -/
theorem run_send (hp : s.phase = .idle) (hc : s.cpres = true) (hn : s.c.dataSize.toNat ≤ s.cfg.payBytes)
    (hev : s.events = cmdWrite 0x05 :: (List.replicate (fragCount s + 2) (.answer .ok) ++ rest)) :
    core.run (fragCount s + 3) s = .next (s.afterEnd rest) := by
  calc core.run (fragCount s + 1 + 1 + 1) s
    _ = core.run (fragCount s + 1 + 1) s.begin.sendStarted := run_succ_of_step (step_send_fits hp hc hn hev)
    _ = core.run (fragCount s + 1) (s.afterChunks rest 0) := run_succ_of_step (step_sendStarted hev)
    _ = core.run 1 (s.afterChunks rest (fragCount s)) := run_stages fun _ => step_afterChunks rest
    _ = .next (s.afterEnd rest) := run_succ_of_step (step_afterChunks_end s rest)

end Sys2Proof.Machine

namespace Sys2Proof

open Machine Claims

/-- Settles O35: the fragment is `State.fragLen` bytes, which keeps XFER_BYTES within TX_N and so from wrapping. -/
theorem sendOffersTheNextFragment : Obligations.SendOffersTheNextFragment := by
  intro s hturn hp hleft
  obtain ⟨hpos, hmax, hend⟩ := fragLen_bounds hleft
  refine ⟨hpos, hmax, _, (exec_send_answer hturn).trans (congrArg _ (answerSend_txChunks hp)), rfl, ?bytes,
    satAdd_toNat s.xferFrags 1⟩
  case bytes =>
    have hlt := s.txN.isLt
    exact Nat.mod_eq_of_lt (by omega)

/-- Settles O38: the bodies by arithmetic (`flatten_fragments`, `lt_fragCount_iff`), the run stage by stage
(`run_send`). -/
theorem sendEmitsTheWholeSequence : Obligations.SendEmitsTheWholeSequence := by
  intro s rest hp hc hn hev
  refine ⟨?bodies, fun j hj => ?lengths, s.afterEnd rest, run_send hp hc hn hev, rfl,
    Nat.mod_eq_of_lt (fragCount_lt s)⟩
  case bodies => rw [flatten_fragments (Nat.le_refl _), chunkOffset_eq_dataSize_iff.mpr (Nat.le_refl _)]
  case lengths =>
    have hpos := s.cfg.frag_pos
    have hleft := lt_fragCount_iff.mp hj
    rw [fragment_length, lt_fragCount_iff, Nat.succ_mul]
    omega

/-- Settles O33: the common clearing, then the two checks of R94 in their order. -/
theorem sendStartsWithThePresentContainer : Obligations.SendStartsWithThePresentContainer := by
  rintro s ⟨hturn, hp⟩
  have hrun : exec .send s = .next (startSend s.accept) := transferCommand_accepted (g := answerSend) hturn hp
  exact ⟨fun hc => hrun.trans (congrArg _ (startSend_absent hc)),
    fun hc hn => hrun.trans (congrArg _ (startSend_tooLong hc hn)),
    fun hc hn => hrun.trans (congrArg _ (startSend_fits hc hn))⟩

/-- Settles O34: what META's answer makes of TX_META (`answerSend_txMeta`). -/
theorem sendOffersMetaFirst : Obligations.SendOffersMetaFirst :=
  fun _ hturn hp => ⟨rfl, (exec_send_answer hturn).trans (congrArg _ (answerSend_txMeta hp))⟩

/-- Settles O36: what END's answer makes of TX_END (`answerSend_txEnd`). -/
theorem sendEndsWithTheEndFrame : Obligations.SendEndsWithTheEndFrame :=
  fun _ hturn hp => (exec_send_answer hturn).trans (congrArg _ (answerSend_txEnd hp))

/-- Settles O37: `answerSend_fail` holds in each of the three phases. -/
theorem sendStopsAtATransmitFailure : Obligations.SendStopsAtATransmitFailure :=
  fun _ hturn hp => (exec_send_answer hturn).trans (congrArg _ (answerSend_fail (decide_eq_true hp)))

end Sys2Proof

/-! ## RECEIVE of what SEND sent (R116)

Each frame of `transmitSequence` decodes to the instruction it encodes. `State.afterTaking` is the state that RECEIVE
has reached when META and a number of CHUNKs are taken; what it has stored is the payload up to the next fragment. -/

namespace Sys2Proof.Machine

open Claims

variable {s a b : State} {rest : List Event} {q : List RxEvent} {n j : Nat}

/-! ### The frames, taken in the phase they are sent for (R104 to R109) -/

theorem decode_metaBytes (c : Container) (len : Word) : decode .channel (metaBytes c len) =
    .ok (.metaFrame c.channels c.sampleRate c.byteRate c.blockAlign c.bits len) :=
  decode_encode (i := .metaFrame c.channels c.sampleRate c.byteRate c.blockAlign c.bits len) rfl

theorem decode_chunkBytes {body : List Byte} (h : body.length ≤ wireFragMax) :
    decode .channel (chunkBytes body) = .ok (.chunkFrame body) :=
  decode_encode (i := .chunkFrame body) (decide_eq_true h)

theorem decode_endBytes : decode .channel endBytes = .ok .endFrame := rfl

theorem exec_metaFrame_rxMeta {ch : Half} {sr br : Word} {ba bps : Half} {len : Word} (hp : s.phase = .rxMeta) :
    exec (.metaFrame ch sr br ba bps len) s = .next (acceptMeta ch sr br ba bps len s) := by
  simp only [exec, execMetaFrame, takeFrame, hp]

theorem exec_chunkFrame_rxChunks {body : List Byte} (hp : s.phase = .rxChunks) :
    exec (.chunkFrame body) s = .next (acceptChunk body s) := by
  simp only [exec, execChunkFrame, takeFrame, hp]

theorem exec_endFrame_rxChunks (hp : s.phase = .rxChunks) : exec .endFrame s = .next (acceptEnd s) := by
  simp only [exec, execEndFrame, takeFrame, hp]

/-- R105: META is stored where PAY has room for the length it declares. -/
theorem acceptMeta_fits {ch : Half} {sr br : Word} {ba bps : Half} {len : Word} (hroom : len.toNat ≤ s.cfg.payBytes) :
    acceptMeta ch sr br ba bps len s = { s with
      rx := { ch := ch, sr := sr, br := br, ba := ba, bps := bps }, rxDeclLen := len, phase := .rxChunks } := by
  simp only [acceptMeta, Nat.not_lt.mpr hroom, if_false]

/-- R107: a CHUNK within the declared length is stored whole. -/
theorem acceptChunk_fits {body : List Byte} (hfits : s.xferBytes.toNat + body.length ≤ s.rxDeclLen.toNat) :
    acceptChunk body s = { s.writePay s.xferBytes.toNat body with
      xferBytes := satAdd s.xferBytes body.length, xferFrags := satAdd s.xferFrags 1 } := by
  rw [acceptChunk, List.take_of_length_le (by omega)]

section Delivered

variable (hev : s.events = .deliver :: rest)
include hev

/-- R104: the next frame of the Channel is taken. -/
theorem step_delivered {f : List Byte} {i : Instr} (hr : s.receiving = true) (hq : s.rxq = .frame f :: q)
    (hd : decode .channel f = .ok i) : step s = exec i { s with events := rest, turn := .deliver, rxq := q } := by
  rw [step_deliver (nextEvent_cons hev) hr hq hd, begin_cons hev]
  rfl

/-- R105: META with a length that PAY has room for. -/
theorem step_metaDelivered {c : Container} {len : Word} (hp : s.phase = .rxMeta)
    (hq : s.rxq = .frame (metaBytes c len) :: q) (hroom : len.toNat ≤ s.cfg.payBytes) :
    step s = .next { s with
      events := rest, turn := .deliver, rxq := q, phase := .rxChunks, rxDeclLen := len,
      rx := { ch := c.channels, sr := c.sampleRate, br := c.byteRate, ba := c.blockAlign, bps := c.bits } } := by
  rw [step_delivered hev (decide_eq_true (.inl hp)) hq (decode_metaBytes c len), exec_metaFrame_rxMeta, acceptMeta_fits]
  exacts [hroom, hp]

/-- R107: a CHUNK within the declared length. -/
theorem step_chunkDelivered {body : List Byte} (hp : s.phase = .rxChunks)
    (hq : s.rxq = .frame (chunkBytes body) :: q) (hlen : body.length ≤ wireFragMax)
    (hfits : s.xferBytes.toNat + body.length ≤ s.rxDeclLen.toNat) :
    step s = .next { s.writePay s.xferBytes.toNat body with
      events := rest, turn := .deliver, rxq := q, xferBytes := satAdd s.xferBytes body.length,
      xferFrags := satAdd s.xferFrags 1 } := by
  rw [step_delivered hev (decide_eq_true (.inr hp)) hq (decode_chunkBytes hlen), exec_chunkFrame_rxChunks,
    acceptChunk_fits]
  exacts [rfl, hfits, hp]

/-- R109: END, which builds the container. -/
theorem step_endDelivered (hp : s.phase = .rxChunks) (hq : s.rxq = .frame endBytes :: q) :
    step s = .next (acceptEnd { s with events := rest, turn := .deliver, rxq := q }) := by
  rw [step_delivered hev (decide_eq_true (.inr hp)) hq decode_endBytes, exec_endFrame_rxChunks]
  exact hp

end Delivered

/-! ### The Channel and PAY between two CHUNKs -/

theorem fragment_length_le (s : State) (j : Nat) : (fragment s j).length ≤ wireFragMax :=
  (fragment_length s j).trans_le ((Nat.min_le_left _ _).trans s.cfg.frag_le)

theorem transmitSequence_length (s : State) : (transmitSequence s).length = fragCount s + 2 := by
  simp [transmitSequence]

/-- After META and `j` CHUNKs the next frame of the sequence is CHUNK number `j` (R101). -/
theorem drop_transmitSequence (hj : j < fragCount s) :
    (transmitSequence s).drop (j + 1) = chunkBytes (fragment s j) :: (transmitSequence s).drop (j + 2) := by
  have hlen : j + 1 < (transmitSequence s).length := by
    rw [transmitSequence_length]
    omega
  rw [List.drop_eq_getElem_cons hlen]
  simp [transmitSequence, hj]

/-- After META and every CHUNK the sequence ends with END (R101). -/
theorem drop_transmitSequence_end (s : State) : (transmitSequence s).drop (fragCount s + 1) = [endBytes] := by
  simp [transmitSequence]

/-- A byte string written in two pieces. -/
theorem Memory.write_append (m : Memory) (x : Nat) (bs cs : List Byte) :
    Memory.write m x (bs ++ cs) = Memory.write (Memory.write m x bs) (x + bs.length) cs := by
  induction bs generalizing m x with
  | nil => rfl
  | cons b bs ih =>
    rw [List.cons_append, Memory.write, ih, Memory.write, List.length_cons, Nat.add_right_comm, Nat.add_assoc]

/-- Storing the next fragment behind the ones before it (R107). -/
theorem write_fragment (m : Memory) (hj : j < fragCount s) :
    Memory.write (Memory.write m 0 (s.readPay 0 (s.chunkOffset j))) (s.chunkOffset j) (fragment s j) =
      Memory.write m 0 (s.readPay 0 (s.chunkOffset (j + 1))) := by
  have happend := Memory.write_append m 0 (s.readPay 0 (s.chunkOffset j)) (fragment s j)
  rw [readPay_length, Nat.zero_add] at happend
  rw [← happend, chunkOffset_succ hj, readPay_add, Nat.zero_add, readPay_chunkOffset hj]

/-! ### The reassembly -/

/-- What a RECEIVE that the idle block `b` started has come to when META and the first `j` CHUNKs of the frames that `a`
sends are taken (R105, R107). -/
def State.afterTaking (b a : State) (q : List RxEvent) (rest : List Event) (j : Nat) : State :=
  { uncounted (emptied (cleared b)) with
    phase := .rxChunks
    rx := { ch := a.c.channels, sr := a.c.sampleRate, br := a.c.byteRate, ba := a.c.blockAlign, bps := a.c.bits }
    rxDeclLen := a.c.dataSize
    xferBytes := BitVec.ofNat 32 (a.chunkOffset j)
    xferFrags := BitVec.ofNat 32 j
    pay := Memory.write b.pay 0 (a.readPay 0 (a.chunkOffset j))
    events := List.replicate (fragCount a - j + 1) .deliver ++ rest
    turn := .deliver
    rxq := ((transmitSequence a).drop (j + 1)).map .frame ++ q }

/-- What that RECEIVE leaves when END is taken too (R109). -/
def State.afterTakingEnd (b a : State) (q : List RxEvent) (rest : List Event) : State :=
  { b.afterTaking a q rest (fragCount a) with
    rxq := q
    events := rest
    sizeMismatch := false
    c := constructFields a.c.channels a.c.sampleRate a.c.byteRate a.c.blockAlign a.c.bits a.c.dataSize
    cpres := true }.complete

/-- R105: META is taken. -/
theorem step_startReceive (hn : a.c.dataSize.toNat ≤ b.cfg.payBytes)
    (hq : b.rxq = (transmitSequence a).map .frame ++ q)
    (hev : b.events = cmdWrite 0x06 :: (List.replicate (fragCount a + 2) .deliver ++ rest)) :
    step (startReceive b.begin.accept) = .next (b.afterTaking a q rest 0) := by
  have hnext : (startReceive b.begin.accept).events = .deliver :: (b.afterTaking a q rest 0).events :=
    congrArg List.tail hev
  have hqueue : (startReceive b.begin.accept).rxq =
      .frame (metaBytes a.c a.c.dataSize) :: (b.afterTaking a q rest 0).rxq := hq
  rw [step_metaDelivered hnext rfl hqueue hn]
  simp [startReceive, State.afterTaking, State.clearCounters, State.discardContainer, State.accept, uncounted, emptied,
    cleared, chunkOffset_zero, State.readPay, Memory.write]

theorem afterTaking_xferBytes_toNat (b a : State) (q : List RxEvent) (rest : List Event) (j : Nat) :
    (b.afterTaking a q rest j).xferBytes.toNat = a.chunkOffset j := Nat.mod_eq_of_lt (chunkOffset_lt a j)

theorem satAdd_chunkOffset (hj : j < fragCount a) :
    satAdd (BitVec.ofNat 32 (a.chunkOffset j)) (fragment a j).length = BitVec.ofNat 32 (a.chunkOffset (j + 1)) := by
  have hlt := chunkOffset_lt a j
  have hsucc := chunkOffset_lt a (j + 1)
  rw [chunkOffset_succ hj] at hsucc ⊢
  apply BitVec.eq_of_toNat_eq
  simp only [satAdd_toNat, BitVec.toNat_ofNat]
  omega

/-- R107: the next CHUNK is taken. -/
theorem step_afterTaking (b : State) (q : List RxEvent) (rest : List Event) (hj : j < fragCount a) :
    step (b.afterTaking a q rest j) = .next (b.afterTaking a q rest (j + 1)) := by
  have hnext : (b.afterTaking a q rest j).events = .deliver :: (b.afterTaking a q rest (j + 1)).events := by
    have hleft : fragCount a - j = fragCount a - (j + 1) + 1 := by omega
    simp only [State.afterTaking, hleft, List.replicate_succ, List.cons_append]
  have hqueue : (b.afterTaking a q rest j).rxq =
      .frame (chunkBytes (fragment a j)) :: (b.afterTaking a q rest (j + 1)).rxq := by
    simp only [State.afterTaking, drop_transmitSequence hj, List.map_cons, List.cons_append]
  have hfits : (b.afterTaking a q rest j).xferBytes.toNat + (fragment a j).length ≤ a.c.dataSize.toNat := by
    rw [afterTaking_xferBytes_toNat, ← chunkOffset_succ hj]
    exact chunkOffset_le a (j + 1)
  rw [step_chunkDelivered hnext rfl hqueue (fragment_length_le a j) hfits, afterTaking_xferBytes_toNat]
  have hfrags := satAdd_one (Nat.lt_of_le_of_lt hj (fragCount_lt a))
  simp [State.afterTaking, State.writePay, write_fragment _ hj, satAdd_chunkOffset hj, hfrags]

/-- R109: END is taken. -/
theorem step_afterTaking_end (b a : State) (q : List RxEvent) (rest : List Event) :
    step (b.afterTaking a q rest (fragCount a)) = .next (b.afterTakingEnd a q rest) := by
  have hnext : (b.afterTaking a q rest (fragCount a)).events = .deliver :: rest := by simp [State.afterTaking]
  have hqueue : (b.afterTaking a q rest (fragCount a)).rxq = .frame endBytes :: q := by
    simp [State.afterTaking, drop_transmitSequence_end]
  rw [step_endDelivered hnext rfl hqueue]
  simp [acceptEnd, State.afterTaking, State.afterTakingEnd, ofNat_chunkOffset_fragCount]

/-- R116: the run of a RECEIVE that is delivered the frames `a` sends. -/
theorem run_receive (hp : b.phase = .idle) (hn : a.c.dataSize.toNat ≤ b.cfg.payBytes)
    (hq : b.rxq = (transmitSequence a).map .frame ++ q)
    (hev : b.events = cmdWrite 0x06 :: (List.replicate (fragCount a + 2) .deliver ++ rest)) :
    core.run (fragCount a + 3) b = .next (b.afterTakingEnd a q rest) := by
  calc core.run (fragCount a + 1 + 1 + 1) b
    _ = core.run (fragCount a + 1 + 1) (startReceive b.begin.accept) :=
      run_succ_of_step (step_receive (nextEvent_cons hev) hp)
    _ = core.run (fragCount a + 1) (b.afterTaking a q rest 0) := run_succ_of_step (step_startReceive hn hq hev)
    _ = core.run 1 (b.afterTaking a q rest (fragCount a)) := run_stages fun _ => step_afterTaking b q rest
    _ = .next (b.afterTakingEnd a q rest) := run_succ_of_step (step_afterTaking_end b a q rest)

/-- PAY holds the payload of `a`, and above it what it held before. -/
theorem payByte_afterTakingEnd (b a : State) (q : List RxEvent) (rest : List Event) (i : Nat) :
    (b.afterTakingEnd a q rest).payByte i = if i < a.c.dataSize.toNat then a.payByte i else b.payByte i := by
  have hwritten : (b.afterTakingEnd a q rest).payByte i =
      (b.writePay 0 (a.readPay 0 a.c.dataSize.toNat)).payByte i := by
    rw [← chunkOffset_eq_dataSize_iff.mpr (Nat.le_refl (fragCount a))]
    rfl
  rw [hwritten, payByte_writePay]
  split
  case isTrue h =>
    have hi : i < a.c.dataSize.toNat := by simpa using h
    rw [if_pos hi, Nat.sub_zero, byteAt_readPay _ _ _ _ hi, Nat.zero_add]
  case isFalse h =>
    rw [if_neg (by simpa using h)]

/-! ### Validity of the reassembled container (R85, R91) -/

/-- R85: VALID as the conjunction of the seven checks on exact naturals. -/
theorem isValid_iff (c : Container) : c.isValid = true ↔
    c.riffId = magicRiff ∧ c.waveId = magicWave ∧ c.fmtId = magicFmt ∧ c.dataId = magicData ∧
    c.byteRate.toNat = c.sampleRate.toNat * c.channels.toNat * c.bits.toNat / 8 ∧
    c.blockAlign.toNat = c.channels.toNat * c.bits.toNat / 8 ∧
    c.totalSize.toNat = 4 + (8 + c.fmtSize.toNat) + (8 + c.dataSize.toNat) := by
  simp only [Container.isValid, Container.riffOk, Container.waveOk, Container.fmtIdOk, Container.dataIdOk,
    Container.byteRateOk, Container.blockAlignOk, Container.totalSizeOk, Bool.and_eq_true, decide_eq_true_eq, and_assoc]

section Rebuilt

variable {c : Container} (cfg : Config) (hn : c.dataSize.toNat ≤ cfg.payBytes) (hv : c.isValid = true)
include hn hv

/-- A valid format stays valid when its container is built anew. -/
theorem isValid_constructFields :
    (constructFields c.channels c.sampleRate c.byteRate c.blockAlign c.bits c.dataSize).isValid = true := by
  obtain ⟨-, -, -, -, hrate, halign, -⟩ := (isValid_iff c).mp hv
  refine (isValid_iff _).mpr ⟨rfl, rfl, rfl, rfl, hrate, halign, ?_⟩
  rw [constructFields_totalSize cfg hn]
  change 36 + c.dataSize.toNat = 4 + (8 + 16) + (8 + c.dataSize.toNat)
  omega

/-- A valid container with the format size and tag that CONSTRUCT assigns is the one built from its format. -/
theorem constructFields_of_isValid (hsize : c.fmtSize = 16) (htag : c.fmtTag = 1) :
    constructFields c.channels c.sampleRate c.byteRate c.blockAlign c.bits c.dataSize = c := by
  obtain ⟨hriff, hwave, hfmt, hdata, -, -, htotal⟩ := (isValid_iff c).mp hv
  have htotalSize : (constructFields c.channels c.sampleRate c.byteRate c.blockAlign c.bits c.dataSize).totalSize =
      c.totalSize := by
    apply BitVec.eq_of_toNat_eq
    rw [constructFields_totalSize cfg hn, htotal, hsize]
    change 36 + c.dataSize.toNat = 4 + (8 + 16) + (8 + c.dataSize.toNat)
    omega
  calc constructFields c.channels c.sampleRate c.byteRate c.blockAlign c.bits c.dataSize
    _ = { c with riffId := magicRiff, totalSize := c.totalSize, waveId := magicWave, fmtId := magicFmt,
                 fmtSize := 16, fmtTag := 1, dataId := magicData } := by rw [← htotalSize]; rfl
    _ = c := by rw [← hriff, ← hwave, ← hfmt, ← hdata, ← hsize, ← htag]

end Rebuilt

end Sys2Proof.Machine

namespace Sys2Proof

open Machine Claims

/-- Settles O47: the run stage by stage (`run_receive`), then what it stored and the container it built. -/
theorem receiveReassemblesWhatSendSent : Obligations.ReceiveReassemblesWhatSendSent := by
  intro a b q rest _ hfits hn hp hq hev
  refine ⟨_, run_receive hp hn hq hev, rfl, rfl, rfl, rfl, rfl, rfl, fun i hi => ?payload, fun i hi => ?above, rfl,
    constructFields_totalSize b.cfg hn _ _ _ _ _, isValid_constructFields b.cfg hn, constructFields_of_isValid b.cfg hn⟩
  case payload => rw [payByte_afterTakingEnd, if_pos hi]
  case above => rw [payByte_afterTakingEnd, if_neg (Nat.not_lt.mpr hi)]

end Sys2Proof

/-! ## RECEIVE, frame by frame (43_decoder.md R103 to R117)

The rules of the transfer decoder that a reassembly without error does not meet: a length that PAY has no room for, a
frame in the phase it does not belong to, a CHUNK that over-runs, and the Channel's LINK_ERROR. -/

namespace Sys2Proof.Machine

open Claims

variable {s : State} {rest : List Event} {q : List RxEvent}

/-! ### How a reception fails (R115) -/

/-- R115: where the block itself finds the error, RX_CLOSE goes before the error entry. -/
theorem failReceive_closes {code : ErrCode} (hc : code ≠ .protoTransportFailure) :
    s.failReceive code = failedWith { s with emitted := s.emitted ++ [.rxClose] } code := by
  rcases failReceive_cases s code with ⟨hlink, -⟩ | ⟨-, hclosed⟩
  · exact absurd hlink hc
  · exact hclosed

/-- R113, R115: what the Channel reported is not closed again. -/
theorem failReceive_linkError (s : State) :
    s.failReceive .protoTransportFailure = failedWith s .protoTransportFailure := rfl

/-! ### A frame in the phase it does not belong to (R106, R108) -/

theorem exec_metaFrame_rxChunks {ch : Half} {sr br : Word} {ba bps : Half} {len : Word} (hp : s.phase = .rxChunks) :
    exec (.metaFrame ch sr br ba bps len) s = .next (s.failReceive .protoMalformed) := by
  simp only [exec, execMetaFrame, takeFrame, hp]

theorem exec_chunkFrame_rxMeta {body : List Byte} (hp : s.phase = .rxMeta) :
    exec (.chunkFrame body) s = .next (s.failReceive .protoNoMetadata) := by
  simp only [exec, execChunkFrame, takeFrame, hp]

theorem exec_endFrame_rxMeta (hp : s.phase = .rxMeta) :
    exec .endFrame s = .next (s.failReceive .protoNoMetadata) := by
  simp only [exec, execEndFrame, takeFrame, hp]

/-! ### A frame that breaks the capacity or the declared length (R105, R107, R111) -/

/-- R105: META that declares more than PAY has room for is stored all the same, and the reception fails. -/
theorem acceptMeta_tooLong {ch : Half} {sr br : Word} {ba bps : Half} {len : Word}
    (hlong : s.cfg.payBytes < len.toNat) :
    acceptMeta ch sr br ba bps len s =
      { s with rx := { ch := ch, sr := sr, br := br, ba := ba, bps := bps }, rxDeclLen := len }.failReceive
        .capacity :=
  if_pos hlong

theorem byteAt_take {l : List Byte} {n i : Nat} (h : i < n) : byteAt (l.take n) i = byteAt l i := by
  simp [byteAt, List.getD_eq_getElem?_getD, h]

/-- R107, R111: the bytes of a CHUNK below the declared length are stored behind those received before, the bytes at or
beyond it are not, and PAY holds what it held everywhere else. -/
theorem payByte_acceptChunk (s : State) (body : List Byte) (a : Nat) :
    (acceptChunk body s).payByte a =
      if s.xferBytes.toNat ≤ a ∧ a < s.xferBytes.toNat + body.length ∧ a < s.rxDeclLen.toNat then
        byteAt body (a - s.xferBytes.toNat)
      else s.payByte a := by
  have hwritten : (acceptChunk body s).payByte a =
      (s.writePay s.xferBytes.toNat (body.take (s.rxDeclLen.toNat - s.xferBytes.toNat))).payByte a :=
    payByte_congr rfl rfl a
  rw [hwritten, payByte_writePay, List.length_take]
  refine ite_congr (propext ⟨?_, ?_⟩) (fun hin => byteAt_take ?_) (fun _ => rfl) <;> omega

/-! ### LINK_ERROR and the run up to it (R113, R117) -/

/-- R113: LINK_ERROR delivered to a receiving block is consumed and fails the transfer. -/
theorem step_linkError (hev : s.events = .deliver :: rest) (hr : s.receiving = true) (hq : s.rxq = .linkError :: q) :
    step s = .next (failedWith { s with events := rest, turn := .deliver, rxq := q } .protoTransportFailure) := by
  have hrec : s.begin.receiving = true := hr
  have hfetch : fetch s = .done ({ s.begin with rxq := q }.failReceive .protoTransportFailure) := by
    simp [fetch, nextEvent_cons hev, deliverStep, hrec, hq]
  rw [step_of_done hfetch, failReceive_linkError, begin_cons hev]
  rfl

/-- What a RECEIVE that the idle block `s` started has come to when a META is taken and then LINK_ERROR (R117). -/
def State.brokenOff (s : State) (st : Staging) (len : Word) (q : List RxEvent) (rest : List Event) : State :=
  failedWith { startReceive s.begin.accept with
    rx := st, rxDeclLen := len, events := rest, turn := .deliver, rxq := q } .protoTransportFailure

/-- R117: RECEIVE is accepted, META stored, and LINK_ERROR ends the transfer. -/
theorem run_brokenOff {f : List Byte} {ch : Half} {sr br : Word} {ba bps : Half} {len : Word} (hp : s.phase = .idle)
    (hev : s.events = cmdWrite 0x06 :: .deliver :: .deliver :: rest) (hq : s.rxq = .frame f :: .linkError :: q)
    (hd : decode .channel f = .ok (.metaFrame ch sr br ba bps len)) (hroom : len.toNat ≤ s.cfg.payBytes) :
    core.run 3 s = .next (s.brokenOff { ch := ch, sr := sr, br := br, ba := ba, bps := bps } len q rest) := by
  have hstarted : (startReceive s.begin.accept).events = .deliver :: .deliver :: rest := congrArg List.tail hev
  have hstored := (step_delivered hstarted rfl hq hd).trans
    ((exec_metaFrame_rxMeta rfl).trans (congrArg Host.Outcome.next (acceptMeta_fits hroom)))
  rw [run_succ_of_step (step_receive (nextEvent_cons hev) hp), run_succ_of_step hstored,
    run_succ_of_step (step_linkError rfl rfl rfl)]
  rfl

end Sys2Proof.Machine

namespace Sys2Proof

open Machine Claims

/-- Settles O43: PAY by `payByte_acceptChunk`, the counters by `satAdd_toNat`. -/
theorem chunkLandsAtTheNextFreeOffset : Obligations.ChunkLandsAtTheNextFreeOffset := by
  intro s body hp base
  refine ⟨acceptChunk body s, exec_chunkFrame_rxChunks hp, rfl, fun i hi hdecl => ?lands, fun a hout => ?kept,
    bufByte_congr rfl rfl, satAdd_toNat _ _, satAdd_toNat _ _⟩
  case lands =>
    rw [payByte_acceptChunk, if_pos ⟨Nat.le_add_right base i, Nat.add_lt_add_left hi base, hdecl⟩,
      Nat.add_sub_cancel_left]
  case kept => rw [payByte_acceptChunk, if_neg hout]

/-- Settles O46: the run comes to `State.brokenOff`, which the acceptance of RECEIVE left without a container. -/
theorem linkErrorAfterMetaGivesNoContainer : Obligations.LinkErrorAfterMetaGivesNoContainer := by
  intro s f q rest ch sr br ba bps len hp hev hq hd hroom
  exact ⟨_, run_brokenOff hp hev hq hd hroom, rfl, rfl, rfl, rfl, rfl, rfl, rfl, rfl, rfl, rfl⟩

/-- Settles O39: the idle block accepts the command, and `startReceive` is what RECEIVE does there. -/
theorem receiveStartsEmpty : Obligations.ReceiveStartsEmpty := by
  rintro s ⟨hturn, hp⟩
  exact transferCommand_accepted (f := startReceive) (g := fun _ t => t) hturn hp

/-- Settles O40: META as PAY has room for the declared length or not. -/
theorem metaStoresTheMetadata : Obligations.MetaStoresTheMetadata := by
  intro s ch sr br ba bps len hp
  rw [exec_metaFrame_rxMeta hp]
  refine ⟨fun hroom => ?fits, fun hlong => ?tooLong⟩
  case fits => rw [acceptMeta_fits hroom]
  case tooLong => rw [acceptMeta_tooLong hlong, failReceive_closes (by decide)]

/-- Settles O41: both frames fail the reception in RX_META. -/
theorem firstFrameMustBeMeta : Obligations.FirstFrameMustBeMeta := by
  intro s body hp
  rw [exec_chunkFrame_rxMeta hp, exec_endFrame_rxMeta hp, failReceive_closes (by decide)]
  exact ⟨rfl, rfl⟩

/-- Settles O42. -/
theorem secondMetaIsMalformed : Obligations.SecondMetaIsMalformed := by
  intro s ch sr br ba bps len hp
  rw [exec_metaFrame_rxChunks hp, failReceive_closes (by decide)]

/-- Settles O44: the container is CONSTRUCT's of the staging registers, whose total size does not wrap. -/
theorem endBuildsTheContainer : Obligations.EndBuildsTheContainer := by
  intro s hp hfits
  exact ⟨acceptEnd s, exec_endFrame_rxChunks hp, rfl, decide_eq_true_iff, rfl,
    constructFields_totalSize s.cfg hfits _ _ _ _ _⟩

/-- Settles O45: `step_linkError` holds in each of the two receive phases. -/
theorem linkErrorFailsTheReception : Obligations.LinkErrorFailsTheReception :=
  fun _ _ _ hphase hev hq => step_linkError hev (decide_eq_true hphase) hq

end Sys2Proof

/-! ## A failing codec command leaves no partial write (R120)

Each codec rule makes all its checks before it writes anything, so its step is the error entry alone or a completion,
and a completion does not set FAILED. -/

namespace Sys2Proof.Machine

variable {s t : State}

/-- From `s` to `t`: where FAILED is 1 afterwards, nothing but the error entry was made. -/
def State.FailsCleanly (s t : State) : Prop := t.failed = true → t = s.fail t.err

theorem failsCleanly_fail (s : State) (code : ErrCode) : s.FailsCleanly (s.fail code) := fun _ => rfl

/-- What completes has not failed, whatever else it wrote. -/
theorem failsCleanly_complete (s u : State) : s.FailsCleanly u.complete := nofun

theorem performDecode_failsCleanly (s : State) : s.FailsCleanly (performDecode s) := by
  rcases performDecode_cases s with ⟨code, -, h⟩ | ⟨-, -, -, h⟩ <;> rw [h]
  · exact failsCleanly_fail s code
  · exact failsCleanly_complete s _

theorem performValidate_failsCleanly (s : State) : s.FailsCleanly (performValidate s) := by
  rcases performValidate_cases s with ⟨-, h⟩ | ⟨-, h⟩ <;> rw [h]
  · exact failsCleanly_fail s _
  · exact failsCleanly_complete s _

theorem performEncode_failsCleanly (s : State) : s.FailsCleanly (performEncode s) := by
  rcases performEncode_cases s with ⟨-, h⟩ | ⟨-, -, h⟩ | ⟨-, -, -, h⟩ <;> rw [h]
  · exact failsCleanly_fail s _
  · exact failsCleanly_fail s _
  · exact failsCleanly_complete s _

theorem performConstruct_failsCleanly (s : State) : s.FailsCleanly (performConstruct s) := by
  rcases performConstruct_cases s with ⟨-, h⟩ | ⟨-, h⟩ <;> rw [h]
  · exact failsCleanly_fail s _
  · exact failsCleanly_complete s _

/-- An EXEC step that goes on has found a codec command in PEND_OP (R78). -/
theorem exists_pendingCommand_of_step (he : s.nextEvent = .engine) (hp : s.phase = .exec) (h : step s = .next t) :
    ∃ i, pendingCommand s.pendOp = some i := by
  cases hi : pendingCommand s.pendOp with
  | some i => exact ⟨i, rfl⟩
  | none => simp [step, fetch, he, engineStep, hp, hi] at h

/-- R78, R120: whichever codec command is pending, its EXEC step fails cleanly. -/
theorem execStep_failsCleanly (he : s.nextEvent = .engine) (hp : s.phase = .exec) (h : step s = .next t) :
    s.begin.FailsCleanly t := by
  have performed {u : State} (hu : step s = .next u) (hclean : s.begin.FailsCleanly u) : s.begin.FailsCleanly t := by
    cases h.symm.trans hu
    exact hclean
  obtain ⟨i, hi⟩ := exists_pendingCommand_of_step he hp h
  rcases pendingCommand_some hi with ⟨ho, -⟩ | ⟨ho, -⟩ | ⟨ho, -⟩ | ⟨ho, -⟩
  · exact performed (step_performs he hp ho (i := .decode) rfl rfl) (performDecode_failsCleanly s.begin)
  · exact performed (step_performs he hp ho (i := .validate) rfl rfl) (performValidate_failsCleanly s.begin)
  · exact performed (step_performs he hp ho (i := .encode) rfl rfl) (performEncode_failsCleanly s.begin)
  · exact performed (step_performs he hp ho (i := .construct) rfl rfl) (performConstruct_failsCleanly s.begin)

/-- The Engine's step takes its event and the turn, and nothing else, before the rule runs. -/
theorem begin_engine (he : s.nextEvent = .engine) :
    s.begin = { s with events := s.events.tail, turn := .engine } := by
  rw [State.begin, he]
  rfl

end Sys2Proof.Machine

namespace Sys2Proof

open Machine Claims

/-- Settles O20: the step is `s.begin.fail t.err`, and `failedWith` spells the same four writes. -/
theorem failedExecStepWritesOnlyStatus : Obligations.FailedExecStepWritesOnlyStatus := by
  intro s t hp he hstep hfailed
  have hclean : t = s.begin.fail t.err := execStep_failsCleanly he hp hstep hfailed
  rwa [begin_engine he] at hclean

end Sys2Proof

/-! ## Reset (70_reset_and_hazards.md R131, R132) -/

namespace Sys2Proof.Machine

/-- R53, U1: a power-up lists no byte in either memory, and nothing is validated yet. -/
theorem powerOn_storeOk (cfg : Config) (p : Nat) : (State.powerOn cfg p).StoreOk where
  buf_wf := rfl
  pay_wf := rfl
  buf_range := rfl
  pay_range := rfl
  not_validated := fun _ => ⟨rfl, rfl⟩
  validated := nofun

/-- R132: right after power-up the block is idle and has recorded no outcome. -/
theorem powerOn_inv (cfg : Config) (p : Nat) : (State.powerOn cfg p).Inv :=
  (powerOn_storeOk cfg p).inv_of_idle rfl nofun (iff_of_false nofun (not_not_intro rfl)) nofun

end Sys2Proof.Machine

namespace Sys2Proof

open Machine

/-- Settles O10: `State.reset` is the power-up with the parameters of the reference configuration. -/
theorem powerOnMeetsTheInvariant : Obligations.PowerOnMeetsTheInvariant :=
  ⟨powerOn_inv, powerOn_inv Config.reference 0⟩

/-- Settles O57: the step is `State.restart` of the state in which the reset event acts, written out field by field. -/
theorem resetRestoresEveryRegister : Obligations.ResetRestoresEveryRegister := by
  intro s rest hev
  rw [step_reset (nextEvent_cons hev), begin_cons hev]
  rfl

end Sys2Proof
